-- ==== Sys2Proof/Word.lean ====
section
/-! DEFINITION. The two word types of the machine (spec/00_scope.md R7, R8: `DATA_WIDTH` 8, `ADDR_WIDTH` and `PAIR_WIDTH` 16). -/

namespace Sys2Proof

/-- A byte (R8). -/
abbrev Byte := BitVec 8

/-- A 16-bit word: a register pair, `SP`, `PC` or a bus address (R7, R8). -/
abbrev Word := BitVec 16

end Sys2Proof
end

