-- ==== Sys2Proof/Machine/Bits.lean ====
section
/-! DEFINITION. Byte order, bit fields and extensions (spec/00_scope.md R8, R9). -/

namespace Sys2Proof

/-- R8: `hi(w) = w[15:8]`. -/
def hi (w : Word) : Byte := w.extractLsb' 8 8

/-- R8: `lo(w) = w[7:0]`. -/
def lo (w : Word) : Byte := w.extractLsb' 0 8

/-- R8: `{h, l} = h*256 + l`. -/
def join (h l : Byte) : Word := h ++ l

/-- R9: `zext_16(b)`, the byte as a 16-bit number. -/
def zext16 (b : Byte) : Word := b.setWidth 16

/-- R9: `sext_16(b) = b` if `b < 128`, else `b + 0xFF00`. -/
def sext16 (b : Byte) : Word := if b.toNat < 128 then zext16 b else zext16 b + 0xFF00

/-- R9: `signed8(b)`, the byte read as a two's complement integer. -/
def signed8 (b : Byte) : Int := if b.toNat < 128 then (b.toNat : Int) else (b.toNat : Int) - 256

/-- A flag as the number 0 or 1 (R9). -/
def bit (b : Bool) : Nat := if b then 1 else 0

/-- R102: the fields of an opcode byte, as numbers. -/
def fieldX (op : Byte) : Nat := op.toNat / 64
def fieldY (op : Byte) : Nat := op.toNat / 8 % 8
def fieldZ (op : Byte) : Nat := op.toNat % 8
def fieldP (op : Byte) : Nat := op.toNat / 16 % 4
def fieldQ (op : Byte) : Nat := op.toNat / 8 % 2

/-- The `i`-th of eight things (the last one for an index above 7). -/
def sel8 {α : Type} (i : Nat) (x0 x1 x2 x3 x4 x5 x6 x7 : α) : α :=
  match i with
  | 0 => x0
  | 1 => x1
  | 2 => x2
  | 3 => x3
  | 4 => x4
  | 5 => x5
  | 6 => x6
  | _ => x7

/-- The `i`-th of four things (the last one for an index above 3). -/
def sel4 {α : Type} (i : Nat) (x0 x1 x2 x3 : α) : α :=
  match i with
  | 0 => x0
  | 1 => x1
  | 2 => x2
  | _ => x3

end Sys2Proof
end

