-- ==== Sys2Proof/Decode.lean ====
section
/-! DEFINITION. The decoder (spec/30_encoding.md R103, written from the field rules R113 and R115), total on any bytes and
rejecting by name, then the encoder, written from the opcode grid (R114, R115) and spec/opcode_table.json, one row a line.
The decoder selects an instruction by its operand fields through the functions of the first section (one per group of
encodings that differ only in an operand), so the two halves are two independent writings of the opcode map. -/

namespace Sys2Proof

/-! ## The instruction of a group with given operands (R104 to R111) -/

/-- R113, `x = 1`: `LD r8[ddd],r8[sss]` (R140 to R142); the slot `ddd = sss = 110` is `HALT` (R321). -/
def ldR8R8 (x : R8) (y : R8) : Instr :=
  match x, y with
  | .B, .B => .ld_B_B | .B, .C => .ld_B_C | .B, .D => .ld_B_D | .B, .E => .ld_B_E
  | .B, .H => .ld_B_H | .B, .L => .ld_B_L | .B, .mHL => .ld_B_mHL | .B, .A => .ld_B_A
  | .C, .B => .ld_C_B | .C, .C => .ld_C_C | .C, .D => .ld_C_D | .C, .E => .ld_C_E
  | .C, .H => .ld_C_H | .C, .L => .ld_C_L | .C, .mHL => .ld_C_mHL | .C, .A => .ld_C_A
  | .D, .B => .ld_D_B | .D, .C => .ld_D_C | .D, .D => .ld_D_D | .D, .E => .ld_D_E
  | .D, .H => .ld_D_H | .D, .L => .ld_D_L | .D, .mHL => .ld_D_mHL | .D, .A => .ld_D_A
  | .E, .B => .ld_E_B | .E, .C => .ld_E_C | .E, .D => .ld_E_D | .E, .E => .ld_E_E
  | .E, .H => .ld_E_H | .E, .L => .ld_E_L | .E, .mHL => .ld_E_mHL | .E, .A => .ld_E_A
  | .H, .B => .ld_H_B | .H, .C => .ld_H_C | .H, .D => .ld_H_D | .H, .E => .ld_H_E
  | .H, .H => .ld_H_H | .H, .L => .ld_H_L | .H, .mHL => .ld_H_mHL | .H, .A => .ld_H_A
  | .L, .B => .ld_L_B | .L, .C => .ld_L_C | .L, .D => .ld_L_D | .L, .E => .ld_L_E
  | .L, .H => .ld_L_H | .L, .L => .ld_L_L | .L, .mHL => .ld_L_mHL | .L, .A => .ld_L_A
  | .mHL, .B => .ld_mHL_B | .mHL, .C => .ld_mHL_C | .mHL, .D => .ld_mHL_D | .mHL, .E => .ld_mHL_E
  | .mHL, .H => .ld_mHL_H | .mHL, .L => .ld_mHL_L | .mHL, .mHL => .halt | .mHL, .A => .ld_mHL_A
  | .A, .B => .ld_A_B | .A, .C => .ld_A_C | .A, .D => .ld_A_D | .A, .E => .ld_A_E
  | .A, .H => .ld_A_H | .A, .L => .ld_A_L | .A, .mHL => .ld_A_mHL | .A, .A => .ld_A_A

/-- R113: `00ddd110`, `LD r8[ddd],n` (R143, R144). -/
def ldR8Imm (x : R8) (n : Byte) : Instr :=
  match x with
  | .B => .ld_B_n n | .C => .ld_C_n n | .D => .ld_D_n n | .E => .ld_E_n n
  | .H => .ld_H_n n | .L => .ld_L_n n | .mHL => .ld_mHL_n n | .A => .ld_A_n n

/-- R113: `00ddd100`, `INC r8[ddd]` (R199, R200). -/
def incR8 (x : R8) : Instr :=
  match x with
  | .B => .inc_B | .C => .inc_C | .D => .inc_D | .E => .inc_E
  | .H => .inc_H | .L => .inc_L | .mHL => .inc_mHL | .A => .inc_A

/-- R113: `00ddd101`, `DEC r8[ddd]` (R201, R202). -/
def decR8 (x : R8) : Instr :=
  match x with
  | .B => .dec_B | .C => .dec_C | .D => .dec_D | .E => .dec_E
  | .H => .dec_H | .L => .dec_L | .mHL => .dec_mHL | .A => .dec_A

/-- R113, `x = 2`: `alu[yyy] A,r8[sss]` (R190). -/
def aluR8 (x : AluOp) (y : R8) : Instr :=
  match x, y with
  | .add, .B => .add_A_B | .add, .C => .add_A_C | .add, .D => .add_A_D | .add, .E => .add_A_E
  | .add, .H => .add_A_H | .add, .L => .add_A_L | .add, .mHL => .add_A_mHL | .add, .A => .add_A_A
  | .adc, .B => .adc_A_B | .adc, .C => .adc_A_C | .adc, .D => .adc_A_D | .adc, .E => .adc_A_E
  | .adc, .H => .adc_A_H | .adc, .L => .adc_A_L | .adc, .mHL => .adc_A_mHL | .adc, .A => .adc_A_A
  | .sub, .B => .sub_A_B | .sub, .C => .sub_A_C | .sub, .D => .sub_A_D | .sub, .E => .sub_A_E
  | .sub, .H => .sub_A_H | .sub, .L => .sub_A_L | .sub, .mHL => .sub_A_mHL | .sub, .A => .sub_A_A
  | .sbc, .B => .sbc_A_B | .sbc, .C => .sbc_A_C | .sbc, .D => .sbc_A_D | .sbc, .E => .sbc_A_E
  | .sbc, .H => .sbc_A_H | .sbc, .L => .sbc_A_L | .sbc, .mHL => .sbc_A_mHL | .sbc, .A => .sbc_A_A
  | .and, .B => .and_A_B | .and, .C => .and_A_C | .and, .D => .and_A_D | .and, .E => .and_A_E
  | .and, .H => .and_A_H | .and, .L => .and_A_L | .and, .mHL => .and_A_mHL | .and, .A => .and_A_A
  | .xor, .B => .xor_A_B | .xor, .C => .xor_A_C | .xor, .D => .xor_A_D | .xor, .E => .xor_A_E
  | .xor, .H => .xor_A_H | .xor, .L => .xor_A_L | .xor, .mHL => .xor_A_mHL | .xor, .A => .xor_A_A
  | .or, .B => .or_A_B | .or, .C => .or_A_C | .or, .D => .or_A_D | .or, .E => .or_A_E
  | .or, .H => .or_A_H | .or, .L => .or_A_L | .or, .mHL => .or_A_mHL | .or, .A => .or_A_A
  | .cp, .B => .cp_A_B | .cp, .C => .cp_A_C | .cp, .D => .cp_A_D | .cp, .E => .cp_A_E
  | .cp, .H => .cp_A_H | .cp, .L => .cp_A_L | .cp, .mHL => .cp_A_mHL | .cp, .A => .cp_A_A

/-- R113: `11yyy110`, `alu[yyy] A,n` (R190). -/
def aluImm (x : AluOp) (n : Byte) : Instr :=
  match x with
  | .add => .add_A_n n | .adc => .adc_A_n n | .sub => .sub_A_n n | .sbc => .sbc_A_n n
  | .and => .and_A_n n | .xor => .xor_A_n n | .or => .or_A_n n | .cp => .cp_A_n n

/-- R113: `00pp0001`, `LD r16[pp],nn` (R170). -/
def ldR16Imm (x : R16) (nn : Word) : Instr :=
  match x with
  | .BC => .ld_BC_nn nn | .DE => .ld_DE_nn nn | .HL => .ld_HL_nn nn | .SP => .ld_SP_nn nn

/-- R113: `00pp1001`, `ADD HL,r16[pp]` (R230). -/
def addHlR16 (x : R16) : Instr :=
  match x with
  | .BC => .add_HL_BC | .DE => .add_HL_DE | .HL => .add_HL_HL | .SP => .add_HL_SP

/-- R113: `00pp0011`, `INC r16[pp]` (R231). -/
def incR16 (x : R16) : Instr :=
  match x with
  | .BC => .inc_BC | .DE => .inc_DE | .HL => .inc_HL | .SP => .inc_SP

/-- R113: `00pp1011`, `DEC r16[pp]` (R232). -/
def decR16 (x : R16) : Instr :=
  match x with
  | .BC => .dec_BC | .DE => .dec_DE | .HL => .dec_HL | .SP => .dec_SP

/-- R113: `00pp0010`, `LD r16mem[pp],A` (R147, R148, R157, R158). -/
def storeAMem (x : R16Mem) : Instr :=
  match x with
  | .BC => .ld_mBC_A | .DE => .ld_mDE_A | .HLi => .ld_mHLi_A | .HLd => .ld_mHLd_A

/-- R113: `00pp1010`, `LD A,r16mem[pp]` (R145, R146, R155, R156). -/
def loadAMem (x : R16Mem) : Instr :=
  match x with
  | .BC => .ld_A_mBC | .DE => .ld_A_mDE | .HLi => .ld_A_mHLi | .HLd => .ld_A_mHLd

/-- R113: `11pp0101`, `PUSH r16stk[pp]` (R173). -/
def pushR16 (x : R16Stk) : Instr :=
  match x with
  | .BC => .push_BC | .DE => .push_DE | .HL => .push_HL | .AF => .push_AF

/-- R113: `11pp0001`, `POP r16stk[pp]` (R174, R175). -/
def popR16 (x : R16Stk) : Instr :=
  match x with
  | .BC => .pop_BC | .DE => .pop_DE | .HL => .pop_HL | .AF => .pop_AF

/-- R113: `001cc000`, `JR cc,e` (R295). -/
def jrCond (x : Cond) (e : Byte) : Instr :=
  match x with
  | .NZ => .jr_NZ_e e | .Z => .jr_Z_e e | .NC => .jr_NC_e e | .C => .jr_C_e e

/-- R113: `110cc010`, `JP cc,nn` (R292). -/
def jpCond (x : Cond) (nn : Word) : Instr :=
  match x with
  | .NZ => .jp_NZ_nn nn | .Z => .jp_Z_nn nn | .NC => .jp_NC_nn nn | .C => .jp_C_nn nn

/-- R113: `110cc100`, `CALL cc,nn` (R297). -/
def callCond (x : Cond) (nn : Word) : Instr :=
  match x with
  | .NZ => .call_NZ_nn nn | .Z => .call_Z_nn nn | .NC => .call_NC_nn nn | .C => .call_C_nn nn

/-- R113: `110cc000`, `RET cc` (R299). -/
def retCond (x : Cond) : Instr :=
  match x with
  | .NZ => .ret_NZ | .Z => .ret_Z | .NC => .ret_NC | .C => .ret_C

/-- R113: `11ttt111`, `RST ttt*8` (R301). -/
def rstTo (t : Nat) : Instr :=
  sel8 t .rst_00 .rst_08 .rst_10 .rst_18 .rst_20 .rst_28 .rst_30 .rst_38

/-- R113, `x = 0`, `z = 7`: the accumulator rotates and `DAA CPL SCF CCF` (R250 to R253, R203 to R206). -/
def accOp (y : Nat) : Instr :=
  sel8 y .rlca .rrca .rla .rra .daa .cpl .scf .ccf

/-- R115, `x = 0`: `rot[yyy] r8[zzz]` (R255 to R262). -/
def rotR8 (x : RotOp) (y : R8) : Instr :=
  match x, y with
  | .rlc, .B => .rlc_B | .rlc, .C => .rlc_C | .rlc, .D => .rlc_D | .rlc, .E => .rlc_E
  | .rlc, .H => .rlc_H | .rlc, .L => .rlc_L | .rlc, .mHL => .rlc_mHL | .rlc, .A => .rlc_A
  | .rrc, .B => .rrc_B | .rrc, .C => .rrc_C | .rrc, .D => .rrc_D | .rrc, .E => .rrc_E
  | .rrc, .H => .rrc_H | .rrc, .L => .rrc_L | .rrc, .mHL => .rrc_mHL | .rrc, .A => .rrc_A
  | .rl, .B => .rl_B | .rl, .C => .rl_C | .rl, .D => .rl_D | .rl, .E => .rl_E
  | .rl, .H => .rl_H | .rl, .L => .rl_L | .rl, .mHL => .rl_mHL | .rl, .A => .rl_A
  | .rr, .B => .rr_B | .rr, .C => .rr_C | .rr, .D => .rr_D | .rr, .E => .rr_E
  | .rr, .H => .rr_H | .rr, .L => .rr_L | .rr, .mHL => .rr_mHL | .rr, .A => .rr_A
  | .sla, .B => .sla_B | .sla, .C => .sla_C | .sla, .D => .sla_D | .sla, .E => .sla_E
  | .sla, .H => .sla_H | .sla, .L => .sla_L | .sla, .mHL => .sla_mHL | .sla, .A => .sla_A
  | .sra, .B => .sra_B | .sra, .C => .sra_C | .sra, .D => .sra_D | .sra, .E => .sra_E
  | .sra, .H => .sra_H | .sra, .L => .sra_L | .sra, .mHL => .sra_mHL | .sra, .A => .sra_A
  | .swap, .B => .swap_B | .swap, .C => .swap_C | .swap, .D => .swap_D | .swap, .E => .swap_E
  | .swap, .H => .swap_H | .swap, .L => .swap_L | .swap, .mHL => .swap_mHL | .swap, .A => .swap_A
  | .srl, .B => .srl_B | .srl, .C => .srl_C | .srl, .D => .srl_D | .srl, .E => .srl_E
  | .srl, .H => .srl_H | .srl, .L => .srl_L | .srl, .mHL => .srl_mHL | .srl, .A => .srl_A

/-- R115, `x = 1`: `BIT yyy,r8[zzz]` (R263). -/
def bitR8 (n : Nat) (x : R8) : Instr :=
  match x with
  | .B => sel8 n .bit_0_B .bit_1_B .bit_2_B .bit_3_B .bit_4_B .bit_5_B .bit_6_B .bit_7_B
  | .C => sel8 n .bit_0_C .bit_1_C .bit_2_C .bit_3_C .bit_4_C .bit_5_C .bit_6_C .bit_7_C
  | .D => sel8 n .bit_0_D .bit_1_D .bit_2_D .bit_3_D .bit_4_D .bit_5_D .bit_6_D .bit_7_D
  | .E => sel8 n .bit_0_E .bit_1_E .bit_2_E .bit_3_E .bit_4_E .bit_5_E .bit_6_E .bit_7_E
  | .H => sel8 n .bit_0_H .bit_1_H .bit_2_H .bit_3_H .bit_4_H .bit_5_H .bit_6_H .bit_7_H
  | .L => sel8 n .bit_0_L .bit_1_L .bit_2_L .bit_3_L .bit_4_L .bit_5_L .bit_6_L .bit_7_L
  | .mHL => sel8 n .bit_0_mHL .bit_1_mHL .bit_2_mHL .bit_3_mHL .bit_4_mHL .bit_5_mHL .bit_6_mHL .bit_7_mHL
  | .A => sel8 n .bit_0_A .bit_1_A .bit_2_A .bit_3_A .bit_4_A .bit_5_A .bit_6_A .bit_7_A

/-- R115, `x = 2`: `RES yyy,r8[zzz]` (R264). -/
def resR8 (n : Nat) (x : R8) : Instr :=
  match x with
  | .B => sel8 n .res_0_B .res_1_B .res_2_B .res_3_B .res_4_B .res_5_B .res_6_B .res_7_B
  | .C => sel8 n .res_0_C .res_1_C .res_2_C .res_3_C .res_4_C .res_5_C .res_6_C .res_7_C
  | .D => sel8 n .res_0_D .res_1_D .res_2_D .res_3_D .res_4_D .res_5_D .res_6_D .res_7_D
  | .E => sel8 n .res_0_E .res_1_E .res_2_E .res_3_E .res_4_E .res_5_E .res_6_E .res_7_E
  | .H => sel8 n .res_0_H .res_1_H .res_2_H .res_3_H .res_4_H .res_5_H .res_6_H .res_7_H
  | .L => sel8 n .res_0_L .res_1_L .res_2_L .res_3_L .res_4_L .res_5_L .res_6_L .res_7_L
  | .mHL => sel8 n .res_0_mHL .res_1_mHL .res_2_mHL .res_3_mHL .res_4_mHL .res_5_mHL .res_6_mHL .res_7_mHL
  | .A => sel8 n .res_0_A .res_1_A .res_2_A .res_3_A .res_4_A .res_5_A .res_6_A .res_7_A

/-- R115, `x = 3`: `SET yyy,r8[zzz]` (R265). -/
def setR8 (n : Nat) (x : R8) : Instr :=
  match x with
  | .B => sel8 n .set_0_B .set_1_B .set_2_B .set_3_B .set_4_B .set_5_B .set_6_B .set_7_B
  | .C => sel8 n .set_0_C .set_1_C .set_2_C .set_3_C .set_4_C .set_5_C .set_6_C .set_7_C
  | .D => sel8 n .set_0_D .set_1_D .set_2_D .set_3_D .set_4_D .set_5_D .set_6_D .set_7_D
  | .E => sel8 n .set_0_E .set_1_E .set_2_E .set_3_E .set_4_E .set_5_E .set_6_E .set_7_E
  | .H => sel8 n .set_0_H .set_1_H .set_2_H .set_3_H .set_4_H .set_5_H .set_6_H .set_7_H
  | .L => sel8 n .set_0_L .set_1_L .set_2_L .set_3_L .set_4_L .set_5_L .set_6_L .set_7_L
  | .mHL => sel8 n .set_0_mHL .set_1_mHL .set_2_mHL .set_3_mHL .set_4_mHL .set_5_mHL .set_6_mHL .set_7_mHL
  | .A => sel8 n .set_0_A .set_1_A .set_2_A .set_3_A .set_4_A .set_5_A .set_6_A .set_7_A

/-! ## Operand tables by index (R104 to R110) -/

/-- R104. -/
def R8.ofIndex (i : Nat) : R8 := sel8 i .B .C .D .E .H .L .mHL .A
/-- R105. -/
def R16.ofIndex (p : Nat) : R16 := sel4 p .BC .DE .HL .SP
/-- R106. -/
def R16Stk.ofIndex (p : Nat) : R16Stk := sel4 p .BC .DE .HL .AF
/-- R107. -/
def R16Mem.ofIndex (p : Nat) : R16Mem := sel4 p .BC .DE .HLi .HLd
/-- R108. -/
def Cond.ofIndex (c : Nat) : Cond := sel4 c .NZ .Z .NC .C
/-- R109. -/
def AluOp.ofIndex (y : Nat) : AluOp := sel8 y .add .adc .sub .sbc .and .xor .or .cp
/-- R110. -/
def RotOp.ofIndex (y : Nat) : RotOp := sel8 y .rlc .rrc .rl .rr .sla .sra .swap .srl

/-! ## The decoder -/

/-- R115: the instruction of the second page that the byte after `0xCB` selects; total. -/
def decodeCb (op2 : Byte) : Instr :=
  let y := fieldY op2
  let o := R8.ofIndex (fieldZ op2)
  match fieldX op2 with
  | 0 => rotR8 (RotOp.ofIndex y) o
  | 1 => bitR8 y o
  | 2 => resR8 y o
  | _ => setR8 y o

/-- R113, quadrant `x = 0`. -/
def decodeX0 (y z : Nat) (b1 b2 : Byte) : Instr :=
  match z with
  | 0 => sel8 y .nop (.ld_mnn_SP (join b2 b1)) (.stop b1) (.jr_e b1)
      (jrCond .NZ b1) (jrCond .Z b1) (jrCond .NC b1) (jrCond .C b1)
  | 1 => if y % 2 = 0 then ldR16Imm (R16.ofIndex (y / 2)) (join b2 b1) else addHlR16 (R16.ofIndex (y / 2))
  | 2 => if y % 2 = 0 then storeAMem (R16Mem.ofIndex (y / 2)) else loadAMem (R16Mem.ofIndex (y / 2))
  | 3 => if y % 2 = 0 then incR16 (R16.ofIndex (y / 2)) else decR16 (R16.ofIndex (y / 2))
  | 4 => incR8 (R8.ofIndex y)
  | 5 => decR8 (R8.ofIndex y)
  | 6 => ldR8Imm (R8.ofIndex y) b1
  | _ => accOp y

/-- R113, quadrant `x = 3`; the byte `0xCB` (`y = 1`, `z = 3`) selects the second page by the byte after it (R103, R118), and
the eleven bytes of R116 decode to their explicit entry "illegal". -/
def decodeX3 (y z : Nat) (b1 b2 : Byte) : Instr :=
  match z with
  | 0 => sel8 y (retCond .NZ) (retCond .Z) (retCond .NC) (retCond .C) (.ldh_mn_A b1) (.add_SP_e b1) (.ldh_A_mn b1) (.ld_HL_SPe b1)
  | 1 => if y % 2 = 0 then popR16 (R16Stk.ofIndex (y / 2)) else sel4 (y / 2) .ret .reti .jp_HL .ld_SP_HL
  | 2 => sel8 y (jpCond .NZ (join b2 b1)) (jpCond .Z (join b2 b1)) (jpCond .NC (join b2 b1)) (jpCond .C (join b2 b1))
      .ldh_mC_A (.ld_mnn_A (join b2 b1)) .ldh_A_mC (.ld_A_mnn (join b2 b1))
  | 3 => sel8 y (.jp_nn (join b2 b1)) (decodeCb b1) .illegal_D3 .illegal_DB .illegal_E3 .illegal_EB .di .ei
  | 4 => sel8 y (callCond .NZ (join b2 b1)) (callCond .Z (join b2 b1)) (callCond .NC (join b2 b1)) (callCond .C (join b2 b1))
      .illegal_E4 .illegal_EC .illegal_F4 .illegal_FC
  | 5 => if y % 2 = 0 then pushR16 (R16Stk.ofIndex (y / 2)) else
      sel4 (y / 2) (.call_nn (join b2 b1)) .illegal_DD .illegal_ED .illegal_FD
  | 6 => aluImm (AluOp.ofIndex y) b1
  | _ => rstTo y

/-- R103: the instruction whose opcode byte is `op` and whose next two bytes are `b1`, `b2` (read only as far as the format
needs them). Total: every byte value falls in exactly one case. -/
def decodeBytes (op b1 b2 : Byte) : Instr :=
  match fieldX op with
  | 0 => decodeX0 (fieldY op) (fieldZ op) b1 b2
  | 1 => ldR8R8 (R8.ofIndex (fieldY op)) (R8.ofIndex (fieldZ op))
  | 2 => aluR8 (AluOp.ofIndex (fieldY op)) (R8.ofIndex (fieldZ op))
  | _ => decodeX3 (fieldY op) (fieldZ op) b1 b2

/-- R119: the length in bytes from the first byte alone (1 for the illegal bytes, which have no length of their own). -/
def lengthOfFirst (op : Byte) : Nat :=
  if op ∈ [0x01, 0x11, 0x21, 0x31, 0x08, 0xC2, 0xCA, 0xD2, 0xDA, 0xC3, 0xC4, 0xCC, 0xD4, 0xDC, 0xCD, 0xEA, 0xFA] then 3
  else if op ∈ [0x06, 0x0E, 0x16, 0x1E, 0x26, 0x2E, 0x36, 0x3E, 0x10, 0x18, 0x20, 0x28, 0x30, 0x38,
      0xC6, 0xCE, 0xD6, 0xDE, 0xE6, 0xEE, 0xF6, 0xFE, 0xE0, 0xF0, 0xE8, 0xF8, 0xCB] then 2
  else 1

/-- Why a byte list is not the start of an instruction. -/
inductive DecodeError where
  /-- there is no byte at all -/
  | noBytes
  /-- the opcode byte asks for more bytes than there are -/
  | truncated (op : Byte)
  deriving DecidableEq, Repr

/-- Decode the instruction at the head of a byte list, and give the bytes after it. -/
def decode (bs : List Byte) : Except DecodeError (Instr × List Byte) :=
  match bs with
  | [] => .error .noBytes
  | op :: rest =>
    if rest.length + 1 < lengthOfFirst op then .error (.truncated op)
    else .ok (decodeBytes op (rest.getD 0 0) (rest.getD 1 0), rest.drop (lengthOfFirst op - 1))

/-- The `k`-th byte of a number whose first byte is its least significant one. -/
def byteOfNat (w k : Nat) : Byte := BitVec.ofNat 8 (w >>> (8 * k))

/-- The instruction the decoder reads from an instruction whose bits are `w`, numbered as spec/opcode_table.json numbers them
(the first byte is bits 7..0), every bit above `nbits` being 0. Behind the prefix the first byte is `0xCB` itself. -/
def decodeTableWord (nbits w : Nat) : Option Instr :=
  let v := w % 2 ^ nbits
  match decode [byteOfNat v 0, byteOfNat v 1, byteOfNat v 2] with
  | .ok (i, _) => some i
  | .error _ => none

/-! ## The encoder (R114, R115, spec/opcode_table.json) -/

/-- The bytes of an instruction, the one at the lowest address first (R101). -/
def encode (i : Instr) : List Byte :=
  match i with
  | .nop => [0x00]
  | .ld_BC_nn nn => [0x01, lo nn, hi nn]
  | .ld_mBC_A => [0x02]
  | .inc_BC => [0x03]
  | .inc_B => [0x04]
  | .dec_B => [0x05]
  | .ld_B_n n => [0x06, n]
  | .rlca => [0x07]
  | .ld_mnn_SP nn => [0x08, lo nn, hi nn]
  | .add_HL_BC => [0x09]
  | .ld_A_mBC => [0x0A]
  | .dec_BC => [0x0B]
  | .inc_C => [0x0C]
  | .dec_C => [0x0D]
  | .ld_C_n n => [0x0E, n]
  | .rrca => [0x0F]
  | .stop pad => [0x10, pad]
  | .ld_DE_nn nn => [0x11, lo nn, hi nn]
  | .ld_mDE_A => [0x12]
  | .inc_DE => [0x13]
  | .inc_D => [0x14]
  | .dec_D => [0x15]
  | .ld_D_n n => [0x16, n]
  | .rla => [0x17]
  | .jr_e e => [0x18, e]
  | .add_HL_DE => [0x19]
  | .ld_A_mDE => [0x1A]
  | .dec_DE => [0x1B]
  | .inc_E => [0x1C]
  | .dec_E => [0x1D]
  | .ld_E_n n => [0x1E, n]
  | .rra => [0x1F]
  | .jr_NZ_e e => [0x20, e]
  | .ld_HL_nn nn => [0x21, lo nn, hi nn]
  | .ld_mHLi_A => [0x22]
  | .inc_HL => [0x23]
  | .inc_H => [0x24]
  | .dec_H => [0x25]
  | .ld_H_n n => [0x26, n]
  | .daa => [0x27]
  | .jr_Z_e e => [0x28, e]
  | .add_HL_HL => [0x29]
  | .ld_A_mHLi => [0x2A]
  | .dec_HL => [0x2B]
  | .inc_L => [0x2C]
  | .dec_L => [0x2D]
  | .ld_L_n n => [0x2E, n]
  | .cpl => [0x2F]
  | .jr_NC_e e => [0x30, e]
  | .ld_SP_nn nn => [0x31, lo nn, hi nn]
  | .ld_mHLd_A => [0x32]
  | .inc_SP => [0x33]
  | .inc_mHL => [0x34]
  | .dec_mHL => [0x35]
  | .ld_mHL_n n => [0x36, n]
  | .scf => [0x37]
  | .jr_C_e e => [0x38, e]
  | .add_HL_SP => [0x39]
  | .ld_A_mHLd => [0x3A]
  | .dec_SP => [0x3B]
  | .inc_A => [0x3C]
  | .dec_A => [0x3D]
  | .ld_A_n n => [0x3E, n]
  | .ccf => [0x3F]
  | .ld_B_B => [0x40]
  | .ld_B_C => [0x41]
  | .ld_B_D => [0x42]
  | .ld_B_E => [0x43]
  | .ld_B_H => [0x44]
  | .ld_B_L => [0x45]
  | .ld_B_mHL => [0x46]
  | .ld_B_A => [0x47]
  | .ld_C_B => [0x48]
  | .ld_C_C => [0x49]
  | .ld_C_D => [0x4A]
  | .ld_C_E => [0x4B]
  | .ld_C_H => [0x4C]
  | .ld_C_L => [0x4D]
  | .ld_C_mHL => [0x4E]
  | .ld_C_A => [0x4F]
  | .ld_D_B => [0x50]
  | .ld_D_C => [0x51]
  | .ld_D_D => [0x52]
  | .ld_D_E => [0x53]
  | .ld_D_H => [0x54]
  | .ld_D_L => [0x55]
  | .ld_D_mHL => [0x56]
  | .ld_D_A => [0x57]
  | .ld_E_B => [0x58]
  | .ld_E_C => [0x59]
  | .ld_E_D => [0x5A]
  | .ld_E_E => [0x5B]
  | .ld_E_H => [0x5C]
  | .ld_E_L => [0x5D]
  | .ld_E_mHL => [0x5E]
  | .ld_E_A => [0x5F]
  | .ld_H_B => [0x60]
  | .ld_H_C => [0x61]
  | .ld_H_D => [0x62]
  | .ld_H_E => [0x63]
  | .ld_H_H => [0x64]
  | .ld_H_L => [0x65]
  | .ld_H_mHL => [0x66]
  | .ld_H_A => [0x67]
  | .ld_L_B => [0x68]
  | .ld_L_C => [0x69]
  | .ld_L_D => [0x6A]
  | .ld_L_E => [0x6B]
  | .ld_L_H => [0x6C]
  | .ld_L_L => [0x6D]
  | .ld_L_mHL => [0x6E]
  | .ld_L_A => [0x6F]
  | .ld_mHL_B => [0x70]
  | .ld_mHL_C => [0x71]
  | .ld_mHL_D => [0x72]
  | .ld_mHL_E => [0x73]
  | .ld_mHL_H => [0x74]
  | .ld_mHL_L => [0x75]
  | .halt => [0x76]
  | .ld_mHL_A => [0x77]
  | .ld_A_B => [0x78]
  | .ld_A_C => [0x79]
  | .ld_A_D => [0x7A]
  | .ld_A_E => [0x7B]
  | .ld_A_H => [0x7C]
  | .ld_A_L => [0x7D]
  | .ld_A_mHL => [0x7E]
  | .ld_A_A => [0x7F]
  | .add_A_B => [0x80]
  | .add_A_C => [0x81]
  | .add_A_D => [0x82]
  | .add_A_E => [0x83]
  | .add_A_H => [0x84]
  | .add_A_L => [0x85]
  | .add_A_mHL => [0x86]
  | .add_A_A => [0x87]
  | .adc_A_B => [0x88]
  | .adc_A_C => [0x89]
  | .adc_A_D => [0x8A]
  | .adc_A_E => [0x8B]
  | .adc_A_H => [0x8C]
  | .adc_A_L => [0x8D]
  | .adc_A_mHL => [0x8E]
  | .adc_A_A => [0x8F]
  | .sub_A_B => [0x90]
  | .sub_A_C => [0x91]
  | .sub_A_D => [0x92]
  | .sub_A_E => [0x93]
  | .sub_A_H => [0x94]
  | .sub_A_L => [0x95]
  | .sub_A_mHL => [0x96]
  | .sub_A_A => [0x97]
  | .sbc_A_B => [0x98]
  | .sbc_A_C => [0x99]
  | .sbc_A_D => [0x9A]
  | .sbc_A_E => [0x9B]
  | .sbc_A_H => [0x9C]
  | .sbc_A_L => [0x9D]
  | .sbc_A_mHL => [0x9E]
  | .sbc_A_A => [0x9F]
  | .and_A_B => [0xA0]
  | .and_A_C => [0xA1]
  | .and_A_D => [0xA2]
  | .and_A_E => [0xA3]
  | .and_A_H => [0xA4]
  | .and_A_L => [0xA5]
  | .and_A_mHL => [0xA6]
  | .and_A_A => [0xA7]
  | .xor_A_B => [0xA8]
  | .xor_A_C => [0xA9]
  | .xor_A_D => [0xAA]
  | .xor_A_E => [0xAB]
  | .xor_A_H => [0xAC]
  | .xor_A_L => [0xAD]
  | .xor_A_mHL => [0xAE]
  | .xor_A_A => [0xAF]
  | .or_A_B => [0xB0]
  | .or_A_C => [0xB1]
  | .or_A_D => [0xB2]
  | .or_A_E => [0xB3]
  | .or_A_H => [0xB4]
  | .or_A_L => [0xB5]
  | .or_A_mHL => [0xB6]
  | .or_A_A => [0xB7]
  | .cp_A_B => [0xB8]
  | .cp_A_C => [0xB9]
  | .cp_A_D => [0xBA]
  | .cp_A_E => [0xBB]
  | .cp_A_H => [0xBC]
  | .cp_A_L => [0xBD]
  | .cp_A_mHL => [0xBE]
  | .cp_A_A => [0xBF]
  | .ret_NZ => [0xC0]
  | .pop_BC => [0xC1]
  | .jp_NZ_nn nn => [0xC2, lo nn, hi nn]
  | .jp_nn nn => [0xC3, lo nn, hi nn]
  | .call_NZ_nn nn => [0xC4, lo nn, hi nn]
  | .push_BC => [0xC5]
  | .add_A_n n => [0xC6, n]
  | .rst_00 => [0xC7]
  | .ret_Z => [0xC8]
  | .ret => [0xC9]
  | .jp_Z_nn nn => [0xCA, lo nn, hi nn]
  | .prefix_CB op2 => [0xCB, op2]
  | .call_Z_nn nn => [0xCC, lo nn, hi nn]
  | .call_nn nn => [0xCD, lo nn, hi nn]
  | .adc_A_n n => [0xCE, n]
  | .rst_08 => [0xCF]
  | .ret_NC => [0xD0]
  | .pop_DE => [0xD1]
  | .jp_NC_nn nn => [0xD2, lo nn, hi nn]
  | .illegal_D3 => [0xD3]
  | .call_NC_nn nn => [0xD4, lo nn, hi nn]
  | .push_DE => [0xD5]
  | .sub_A_n n => [0xD6, n]
  | .rst_10 => [0xD7]
  | .ret_C => [0xD8]
  | .reti => [0xD9]
  | .jp_C_nn nn => [0xDA, lo nn, hi nn]
  | .illegal_DB => [0xDB]
  | .call_C_nn nn => [0xDC, lo nn, hi nn]
  | .illegal_DD => [0xDD]
  | .sbc_A_n n => [0xDE, n]
  | .rst_18 => [0xDF]
  | .ldh_mn_A n => [0xE0, n]
  | .pop_HL => [0xE1]
  | .ldh_mC_A => [0xE2]
  | .illegal_E3 => [0xE3]
  | .illegal_E4 => [0xE4]
  | .push_HL => [0xE5]
  | .and_A_n n => [0xE6, n]
  | .rst_20 => [0xE7]
  | .add_SP_e e => [0xE8, e]
  | .jp_HL => [0xE9]
  | .ld_mnn_A nn => [0xEA, lo nn, hi nn]
  | .illegal_EB => [0xEB]
  | .illegal_EC => [0xEC]
  | .illegal_ED => [0xED]
  | .xor_A_n n => [0xEE, n]
  | .rst_28 => [0xEF]
  | .ldh_A_mn n => [0xF0, n]
  | .pop_AF => [0xF1]
  | .ldh_A_mC => [0xF2]
  | .di => [0xF3]
  | .illegal_F4 => [0xF4]
  | .push_AF => [0xF5]
  | .or_A_n n => [0xF6, n]
  | .rst_30 => [0xF7]
  | .ld_HL_SPe e => [0xF8, e]
  | .ld_SP_HL => [0xF9]
  | .ld_A_mnn nn => [0xFA, lo nn, hi nn]
  | .ei => [0xFB]
  | .illegal_FC => [0xFC]
  | .illegal_FD => [0xFD]
  | .cp_A_n n => [0xFE, n]
  | .rst_38 => [0xFF]
  | .rlc_B => [0xCB, 0x00]
  | .rlc_C => [0xCB, 0x01]
  | .rlc_D => [0xCB, 0x02]
  | .rlc_E => [0xCB, 0x03]
  | .rlc_H => [0xCB, 0x04]
  | .rlc_L => [0xCB, 0x05]
  | .rlc_mHL => [0xCB, 0x06]
  | .rlc_A => [0xCB, 0x07]
  | .rrc_B => [0xCB, 0x08]
  | .rrc_C => [0xCB, 0x09]
  | .rrc_D => [0xCB, 0x0A]
  | .rrc_E => [0xCB, 0x0B]
  | .rrc_H => [0xCB, 0x0C]
  | .rrc_L => [0xCB, 0x0D]
  | .rrc_mHL => [0xCB, 0x0E]
  | .rrc_A => [0xCB, 0x0F]
  | .rl_B => [0xCB, 0x10]
  | .rl_C => [0xCB, 0x11]
  | .rl_D => [0xCB, 0x12]
  | .rl_E => [0xCB, 0x13]
  | .rl_H => [0xCB, 0x14]
  | .rl_L => [0xCB, 0x15]
  | .rl_mHL => [0xCB, 0x16]
  | .rl_A => [0xCB, 0x17]
  | .rr_B => [0xCB, 0x18]
  | .rr_C => [0xCB, 0x19]
  | .rr_D => [0xCB, 0x1A]
  | .rr_E => [0xCB, 0x1B]
  | .rr_H => [0xCB, 0x1C]
  | .rr_L => [0xCB, 0x1D]
  | .rr_mHL => [0xCB, 0x1E]
  | .rr_A => [0xCB, 0x1F]
  | .sla_B => [0xCB, 0x20]
  | .sla_C => [0xCB, 0x21]
  | .sla_D => [0xCB, 0x22]
  | .sla_E => [0xCB, 0x23]
  | .sla_H => [0xCB, 0x24]
  | .sla_L => [0xCB, 0x25]
  | .sla_mHL => [0xCB, 0x26]
  | .sla_A => [0xCB, 0x27]
  | .sra_B => [0xCB, 0x28]
  | .sra_C => [0xCB, 0x29]
  | .sra_D => [0xCB, 0x2A]
  | .sra_E => [0xCB, 0x2B]
  | .sra_H => [0xCB, 0x2C]
  | .sra_L => [0xCB, 0x2D]
  | .sra_mHL => [0xCB, 0x2E]
  | .sra_A => [0xCB, 0x2F]
  | .swap_B => [0xCB, 0x30]
  | .swap_C => [0xCB, 0x31]
  | .swap_D => [0xCB, 0x32]
  | .swap_E => [0xCB, 0x33]
  | .swap_H => [0xCB, 0x34]
  | .swap_L => [0xCB, 0x35]
  | .swap_mHL => [0xCB, 0x36]
  | .swap_A => [0xCB, 0x37]
  | .srl_B => [0xCB, 0x38]
  | .srl_C => [0xCB, 0x39]
  | .srl_D => [0xCB, 0x3A]
  | .srl_E => [0xCB, 0x3B]
  | .srl_H => [0xCB, 0x3C]
  | .srl_L => [0xCB, 0x3D]
  | .srl_mHL => [0xCB, 0x3E]
  | .srl_A => [0xCB, 0x3F]
  | .bit_0_B => [0xCB, 0x40]
  | .bit_0_C => [0xCB, 0x41]
  | .bit_0_D => [0xCB, 0x42]
  | .bit_0_E => [0xCB, 0x43]
  | .bit_0_H => [0xCB, 0x44]
  | .bit_0_L => [0xCB, 0x45]
  | .bit_0_mHL => [0xCB, 0x46]
  | .bit_0_A => [0xCB, 0x47]
  | .bit_1_B => [0xCB, 0x48]
  | .bit_1_C => [0xCB, 0x49]
  | .bit_1_D => [0xCB, 0x4A]
  | .bit_1_E => [0xCB, 0x4B]
  | .bit_1_H => [0xCB, 0x4C]
  | .bit_1_L => [0xCB, 0x4D]
  | .bit_1_mHL => [0xCB, 0x4E]
  | .bit_1_A => [0xCB, 0x4F]
  | .bit_2_B => [0xCB, 0x50]
  | .bit_2_C => [0xCB, 0x51]
  | .bit_2_D => [0xCB, 0x52]
  | .bit_2_E => [0xCB, 0x53]
  | .bit_2_H => [0xCB, 0x54]
  | .bit_2_L => [0xCB, 0x55]
  | .bit_2_mHL => [0xCB, 0x56]
  | .bit_2_A => [0xCB, 0x57]
  | .bit_3_B => [0xCB, 0x58]
  | .bit_3_C => [0xCB, 0x59]
  | .bit_3_D => [0xCB, 0x5A]
  | .bit_3_E => [0xCB, 0x5B]
  | .bit_3_H => [0xCB, 0x5C]
  | .bit_3_L => [0xCB, 0x5D]
  | .bit_3_mHL => [0xCB, 0x5E]
  | .bit_3_A => [0xCB, 0x5F]
  | .bit_4_B => [0xCB, 0x60]
  | .bit_4_C => [0xCB, 0x61]
  | .bit_4_D => [0xCB, 0x62]
  | .bit_4_E => [0xCB, 0x63]
  | .bit_4_H => [0xCB, 0x64]
  | .bit_4_L => [0xCB, 0x65]
  | .bit_4_mHL => [0xCB, 0x66]
  | .bit_4_A => [0xCB, 0x67]
  | .bit_5_B => [0xCB, 0x68]
  | .bit_5_C => [0xCB, 0x69]
  | .bit_5_D => [0xCB, 0x6A]
  | .bit_5_E => [0xCB, 0x6B]
  | .bit_5_H => [0xCB, 0x6C]
  | .bit_5_L => [0xCB, 0x6D]
  | .bit_5_mHL => [0xCB, 0x6E]
  | .bit_5_A => [0xCB, 0x6F]
  | .bit_6_B => [0xCB, 0x70]
  | .bit_6_C => [0xCB, 0x71]
  | .bit_6_D => [0xCB, 0x72]
  | .bit_6_E => [0xCB, 0x73]
  | .bit_6_H => [0xCB, 0x74]
  | .bit_6_L => [0xCB, 0x75]
  | .bit_6_mHL => [0xCB, 0x76]
  | .bit_6_A => [0xCB, 0x77]
  | .bit_7_B => [0xCB, 0x78]
  | .bit_7_C => [0xCB, 0x79]
  | .bit_7_D => [0xCB, 0x7A]
  | .bit_7_E => [0xCB, 0x7B]
  | .bit_7_H => [0xCB, 0x7C]
  | .bit_7_L => [0xCB, 0x7D]
  | .bit_7_mHL => [0xCB, 0x7E]
  | .bit_7_A => [0xCB, 0x7F]
  | .res_0_B => [0xCB, 0x80]
  | .res_0_C => [0xCB, 0x81]
  | .res_0_D => [0xCB, 0x82]
  | .res_0_E => [0xCB, 0x83]
  | .res_0_H => [0xCB, 0x84]
  | .res_0_L => [0xCB, 0x85]
  | .res_0_mHL => [0xCB, 0x86]
  | .res_0_A => [0xCB, 0x87]
  | .res_1_B => [0xCB, 0x88]
  | .res_1_C => [0xCB, 0x89]
  | .res_1_D => [0xCB, 0x8A]
  | .res_1_E => [0xCB, 0x8B]
  | .res_1_H => [0xCB, 0x8C]
  | .res_1_L => [0xCB, 0x8D]
  | .res_1_mHL => [0xCB, 0x8E]
  | .res_1_A => [0xCB, 0x8F]
  | .res_2_B => [0xCB, 0x90]
  | .res_2_C => [0xCB, 0x91]
  | .res_2_D => [0xCB, 0x92]
  | .res_2_E => [0xCB, 0x93]
  | .res_2_H => [0xCB, 0x94]
  | .res_2_L => [0xCB, 0x95]
  | .res_2_mHL => [0xCB, 0x96]
  | .res_2_A => [0xCB, 0x97]
  | .res_3_B => [0xCB, 0x98]
  | .res_3_C => [0xCB, 0x99]
  | .res_3_D => [0xCB, 0x9A]
  | .res_3_E => [0xCB, 0x9B]
  | .res_3_H => [0xCB, 0x9C]
  | .res_3_L => [0xCB, 0x9D]
  | .res_3_mHL => [0xCB, 0x9E]
  | .res_3_A => [0xCB, 0x9F]
  | .res_4_B => [0xCB, 0xA0]
  | .res_4_C => [0xCB, 0xA1]
  | .res_4_D => [0xCB, 0xA2]
  | .res_4_E => [0xCB, 0xA3]
  | .res_4_H => [0xCB, 0xA4]
  | .res_4_L => [0xCB, 0xA5]
  | .res_4_mHL => [0xCB, 0xA6]
  | .res_4_A => [0xCB, 0xA7]
  | .res_5_B => [0xCB, 0xA8]
  | .res_5_C => [0xCB, 0xA9]
  | .res_5_D => [0xCB, 0xAA]
  | .res_5_E => [0xCB, 0xAB]
  | .res_5_H => [0xCB, 0xAC]
  | .res_5_L => [0xCB, 0xAD]
  | .res_5_mHL => [0xCB, 0xAE]
  | .res_5_A => [0xCB, 0xAF]
  | .res_6_B => [0xCB, 0xB0]
  | .res_6_C => [0xCB, 0xB1]
  | .res_6_D => [0xCB, 0xB2]
  | .res_6_E => [0xCB, 0xB3]
  | .res_6_H => [0xCB, 0xB4]
  | .res_6_L => [0xCB, 0xB5]
  | .res_6_mHL => [0xCB, 0xB6]
  | .res_6_A => [0xCB, 0xB7]
  | .res_7_B => [0xCB, 0xB8]
  | .res_7_C => [0xCB, 0xB9]
  | .res_7_D => [0xCB, 0xBA]
  | .res_7_E => [0xCB, 0xBB]
  | .res_7_H => [0xCB, 0xBC]
  | .res_7_L => [0xCB, 0xBD]
  | .res_7_mHL => [0xCB, 0xBE]
  | .res_7_A => [0xCB, 0xBF]
  | .set_0_B => [0xCB, 0xC0]
  | .set_0_C => [0xCB, 0xC1]
  | .set_0_D => [0xCB, 0xC2]
  | .set_0_E => [0xCB, 0xC3]
  | .set_0_H => [0xCB, 0xC4]
  | .set_0_L => [0xCB, 0xC5]
  | .set_0_mHL => [0xCB, 0xC6]
  | .set_0_A => [0xCB, 0xC7]
  | .set_1_B => [0xCB, 0xC8]
  | .set_1_C => [0xCB, 0xC9]
  | .set_1_D => [0xCB, 0xCA]
  | .set_1_E => [0xCB, 0xCB]
  | .set_1_H => [0xCB, 0xCC]
  | .set_1_L => [0xCB, 0xCD]
  | .set_1_mHL => [0xCB, 0xCE]
  | .set_1_A => [0xCB, 0xCF]
  | .set_2_B => [0xCB, 0xD0]
  | .set_2_C => [0xCB, 0xD1]
  | .set_2_D => [0xCB, 0xD2]
  | .set_2_E => [0xCB, 0xD3]
  | .set_2_H => [0xCB, 0xD4]
  | .set_2_L => [0xCB, 0xD5]
  | .set_2_mHL => [0xCB, 0xD6]
  | .set_2_A => [0xCB, 0xD7]
  | .set_3_B => [0xCB, 0xD8]
  | .set_3_C => [0xCB, 0xD9]
  | .set_3_D => [0xCB, 0xDA]
  | .set_3_E => [0xCB, 0xDB]
  | .set_3_H => [0xCB, 0xDC]
  | .set_3_L => [0xCB, 0xDD]
  | .set_3_mHL => [0xCB, 0xDE]
  | .set_3_A => [0xCB, 0xDF]
  | .set_4_B => [0xCB, 0xE0]
  | .set_4_C => [0xCB, 0xE1]
  | .set_4_D => [0xCB, 0xE2]
  | .set_4_E => [0xCB, 0xE3]
  | .set_4_H => [0xCB, 0xE4]
  | .set_4_L => [0xCB, 0xE5]
  | .set_4_mHL => [0xCB, 0xE6]
  | .set_4_A => [0xCB, 0xE7]
  | .set_5_B => [0xCB, 0xE8]
  | .set_5_C => [0xCB, 0xE9]
  | .set_5_D => [0xCB, 0xEA]
  | .set_5_E => [0xCB, 0xEB]
  | .set_5_H => [0xCB, 0xEC]
  | .set_5_L => [0xCB, 0xED]
  | .set_5_mHL => [0xCB, 0xEE]
  | .set_5_A => [0xCB, 0xEF]
  | .set_6_B => [0xCB, 0xF0]
  | .set_6_C => [0xCB, 0xF1]
  | .set_6_D => [0xCB, 0xF2]
  | .set_6_E => [0xCB, 0xF3]
  | .set_6_H => [0xCB, 0xF4]
  | .set_6_L => [0xCB, 0xF5]
  | .set_6_mHL => [0xCB, 0xF6]
  | .set_6_A => [0xCB, 0xF7]
  | .set_7_B => [0xCB, 0xF8]
  | .set_7_C => [0xCB, 0xF9]
  | .set_7_D => [0xCB, 0xFA]
  | .set_7_E => [0xCB, 0xFB]
  | .set_7_H => [0xCB, 0xFC]
  | .set_7_L => [0xCB, 0xFD]
  | .set_7_mHL => [0xCB, 0xFE]
  | .set_7_A => [0xCB, 0xFF]

/-- The length of an instruction in bytes (R100). -/
def Instr.length (i : Instr) : Nat := (encode i).length

end Sys2Proof
end

