-- ==== Sys2Proof/Config.lean ====
section
/-! DEFINITION. What the implementation fixes (spec/00_scope.md R7) and the two parameters the spec leaves open with no default. -/

namespace Sys2Proof.Config

/-- `OPEN_BUS_VALUE`, the sentinel every unmapped address reads (spec/20_memory.md R77). -/
def openBus : Byte := 0xFF

/-- `RAM_INIT`: what a byte of `vram`, `wram`, `oam`, `io` or `hram` that nothing has written reads as. The spec leaves it
open with this default (R7, R38); DESIGN CHOICE, log 2, unsafe. `construct` takes any other value as an argument. -/
def ramInit : Byte := 0x00

/-- What a ROM byte past the end of the image reads as (spec/48_host_interface.md R370). -/
def romPad : Byte := 0xFF

/-- The entry points (spec/10_state.md R38): without and with a boot ROM. -/
def entryCartridge : Word := 0x0100
def entryBoot : Word := 0x0000

/-- `MIN_ROM_LEN` (R7, R372). -/
def minRomLen : Nat := 0x150

/-- `TICK_CYCLES`, in M-cycles (R7, R377). -/
def tickCycles : Nat := 17556

/-- `SNAPSHOT_SIZE` (R7, R342). -/
def snapshotSize : Nat := 65807

/-- M-cycles an interrupt dispatch costs (spec/60_exceptions.md R404). -/
def dispatchCycles : Nat := 5

/-- `RESULT_ADDR`, OPEN with no default (spec/48_host_interface.md R379): a constant about which nothing is known. Log 9. -/
opaque resultAddr : Word

/-- `PASS_VALUE`, OPEN with no default (R379): a constant about which nothing is known. Log 9. -/
opaque passValue : Byte

end Sys2Proof.Config
end

