-- ==== Sys2Proof/Machine/State.lean ====
section
/-! DEFINITION. The whole architectural state (spec/10_state.md R35), the reasons a step can stop, and the state after reset
(R38). -/

namespace Sys2Proof.Machine

/-- R27: the CPU mode; there is no other mode and no terminal one. -/
inductive Mode where
  /-- each step executes one instruction -/
  | running
  /-- entered by `HALT`; left when an enabled interrupt is requested -/
  | halted
  /-- entered by `STOP`; left when the host asserts `wake_in` -/
  | stopped
  deriving DecidableEq, Repr

/-- What the host passes to one step (spec/48_host_interface.md R373, R374). -/
structure StepInput where
  /-- `irq_in[4:0]`: bit `i` requests interrupt source `i` -/
  irq : BitVec 5
  /-- `wake_in`: wakes a `Stopped` core -/
  wake : Bool
  deriving DecidableEq, Repr

/-- One byte array of the bus (R34), as the list of the cells that differ from what the array reads where nothing is listed,
by strictly rising index. -/
abbrev Cells := List Host.Cell

/-- The byte arrays the bus owns (R34), each indexed from 0. -/
structure Memory where
  /-- cartridge ROM window, 32768 bytes, never written by a step -/
  rom : Cells
  /-- boot ROM, 256 bytes, never written by a step -/
  boot : Cells
  /-- video RAM, 8192 bytes -/
  vram : Cells
  /-- work RAM, 8192 bytes -/
  wram : Cells
  /-- object attribute memory, 160 bytes -/
  oam : Cells
  /-- I/O register storage, 128 bytes, index = address - 0xFF00; index 0x0F does not exist (log 11) -/
  io : Cells
  /-- high RAM, 127 bytes -/
  hram : Cells
  deriving DecidableEq, Repr

/-- The state of one instance (R35), and the model's own queue of host inputs (log 4). -/
structure State where
  /-- the accumulator (R20) -/
  a : Byte
  /-- the flags register, `Z N H C 0 0 0 0` from bit 7 down (R21) -/
  f : Byte
  /-- general register B (R20) -/
  b : Byte
  /-- general register C (R20) -/
  c : Byte
  /-- general register D (R20) -/
  d : Byte
  /-- general register E (R20) -/
  e : Byte
  /-- general register H (R20) -/
  h : Byte
  /-- general register L (R20) -/
  l : Byte
  /-- the stack pointer (R23) -/
  sp : Word
  /-- the program counter: between steps, the address of the next instruction's first byte (R24) -/
  pc : Word
  /-- the interrupt master enable (R28) -/
  ime : Bool
  /-- an `EI` waits to take effect (R29) -/
  imePending : Bool
  /-- the next `Fetch8` does not advance `PC` (R33) -/
  haltBug : Bool
  /-- the boot ROM overlays 0x0000 to 0x00FF (R32) -/
  bootMapped : Bool
  /-- R27 -/
  mode : Mode
  /-- the interrupt-enable register, address 0xFFFF (R30) -/
  ie : Byte
  /-- the interrupt-request register `IF`, address 0xFF0F (R31) -/
  iflag : BitVec 5
  /-- the byte arrays (R34) -/
  mem : Memory
  /-- the host's inputs of the coming steps, oldest first; an empty queue means no request and no wake (log 4) -/
  inputs : List StepInput
  deriving DecidableEq, Repr

/-- Why a step has no successor state. -/
inductive Fault where
  /-- R326, R410: the byte `op`, fetched from `addr`, is one of the eleven illegal opcode bytes. Raised by the meanings of the
  eleven `illegal_` constructors, on every path. The spec itself makes it a fault: safe. -/
  | illegalOpcode (op : Byte) (addr : Word)
  deriving DecidableEq, Repr

/-- Why the model declines an instruction. -/
inductive Refusal where
  /-- the instruction has no meaning in this model yet; raised by a refused arm of `exec` alone (there is none): safe. -/
  | notModelled (mnemonic : String)
  deriving DecidableEq, Repr

/-- The state right after construction without a boot ROM (R38, right column), from a ROM image all of whose bytes are 0xFF
(log 1) and with RAM_INIT at its default (log 2). -/
def State.reset : State where
  a := 0x01
  f := 0xB0
  b := 0x00
  c := 0x13
  d := 0x00
  e := 0xD8
  h := 0x01
  l := 0x4D
  sp := 0xFFFE
  pc := Config.entryCartridge
  ime := false
  imePending := false
  haltBug := false
  bootMapped := false
  mode := .running
  ie := 0x00
  iflag := 0
  mem := { rom := [], boot := [], vram := [], wram := [], oam := [], io := [], hram := [] }
  inputs := []

end Sys2Proof.Machine
end

