-- ==== Sys2Proof/Machine/Flags.lean ====
section
/-! DEFINITION. The flags register (spec/10_state.md R21) and every flag computation of spec/42_alu8.md to
spec/44_rotate_shift_bit.md, on unsigned integers as the rules write them (R207). -/

namespace Sys2Proof.Machine

/-- R21: `F = {Z, N, H, C, 0, 0, 0, 0}`. -/
def packF (z n h c : Bool) : Byte :=
  (if z then 0x80 else 0) ||| (if n then 0x40 else 0) ||| (if h then 0x20 else 0) ||| (if c then 0x10 else 0)

/-- R21: the flags by name. -/
def State.zf (s : State) : Bool := s.f.getLsbD 7
def State.nf (s : State) : Bool := s.f.getLsbD 6
def State.hf (s : State) : Bool := s.f.getLsbD 5
def State.cf (s : State) : Bool := s.f.getLsbD 4

/-- Write all four flags; the low nibble of `F` is 0 (R21). -/
def State.setFlags (s : State) (z n h c : Bool) : State := { s with f := packF z n h c }

/-- R191, R192: carry out of bit 3 of `a + b + c`. -/
def addHalf (a b : Byte) (c : Nat) : Bool := decide (a.toNat % 16 + b.toNat % 16 + c > 0x0F)
/-- R191, R192: carry out of bit 7 of `a + b + c`. -/
def addCarry (a b : Byte) (c : Nat) : Bool := decide (a.toNat + b.toNat + c > 0xFF)
/-- R193, R194, R198: borrow from bit 4 of `a - b - c`. -/
def subHalf (a b : Byte) (c : Nat) : Bool := decide (a.toNat % 16 < b.toNat % 16 + c)
/-- R193, R194, R198: borrow out of bit 7 of `a - b - c`. -/
def subBorrow (a b : Byte) (c : Nat) : Bool := decide (a.toNat < b.toNat + c)
/-- R199, R200: half-carry of `v + 1`. -/
def incHalf (v : Byte) : Bool := decide (v.toNat % 16 = 0x0F)
/-- R201, R202: half-borrow of `v - 1`. -/
def decHalf (v : Byte) : Bool := decide (v.toNat % 16 = 0)
/-- R230: carry out of bit 11. -/
def addHalf16 (x y : Word) : Bool := decide (x.toNat % 0x1000 + y.toNat % 0x1000 > 0x0FFF)
/-- R230: carry out of bit 15. -/
def addCarry16 (x y : Word) : Bool := decide (x.toNat + y.toNat > 0xFFFF)
/-- R233, R234: carry out of bit 3 of the low byte of `SP` plus the raw displacement byte. -/
def spHalf (sp : Word) (e : Byte) : Bool := decide (sp.toNat % 16 + e.toNat % 16 > 0x0F)
/-- R233, R234: carry out of bit 7 of the low byte of `SP` plus the raw displacement byte. -/
def spCarry (sp : Word) (e : Byte) : Bool := decide (sp.toNat % 256 + e.toNat > 0xFF)

/-- R108, R290: the condition, from the flags. -/
def State.cond (s : State) : Cond → Bool
  | .NZ => !s.zf
  | .Z => s.zf
  | .NC => !s.cf
  | .C => s.cf

end Sys2Proof.Machine
end

