-- ==== Sys2Proof/Machine/Cycles.lean ====
section
/-! DEFINITION. M-cycles (spec/60_exceptions.md R406, spec/70_reset_and_hazards.md R471, spec/opcode_table.json `cycles_m`).
An output of the step only: no rule of registers or memory reads them (R16). -/

namespace Sys2Proof.Machine

/-- `cycles_m` of the unprefixed opcodes, one row per high nibble; the count of the path taken for conditional transfers; 0
for the illegal bytes and the prefix. -/
def opCycleGrid : List (List Nat) := [
  [1, 3, 2, 2, 1, 1, 2, 1, 5, 2, 2, 2, 1, 1, 2, 1],
  [1, 3, 2, 2, 1, 1, 2, 1, 3, 2, 2, 2, 1, 1, 2, 1],
  [3, 3, 2, 2, 1, 1, 2, 1, 3, 2, 2, 2, 1, 1, 2, 1],
  [3, 3, 2, 2, 3, 3, 3, 1, 3, 2, 2, 2, 1, 1, 2, 1],
  [1, 1, 1, 1, 1, 1, 2, 1, 1, 1, 1, 1, 1, 1, 2, 1],
  [1, 1, 1, 1, 1, 1, 2, 1, 1, 1, 1, 1, 1, 1, 2, 1],
  [1, 1, 1, 1, 1, 1, 2, 1, 1, 1, 1, 1, 1, 1, 2, 1],
  [2, 2, 2, 2, 2, 2, 1, 2, 1, 1, 1, 1, 1, 1, 2, 1],
  [1, 1, 1, 1, 1, 1, 2, 1, 1, 1, 1, 1, 1, 1, 2, 1],
  [1, 1, 1, 1, 1, 1, 2, 1, 1, 1, 1, 1, 1, 1, 2, 1],
  [1, 1, 1, 1, 1, 1, 2, 1, 1, 1, 1, 1, 1, 1, 2, 1],
  [1, 1, 1, 1, 1, 1, 2, 1, 1, 1, 1, 1, 1, 1, 2, 1],
  [5, 3, 4, 4, 6, 4, 2, 4, 5, 4, 4, 0, 6, 6, 2, 4],
  [5, 3, 4, 0, 6, 4, 2, 4, 5, 4, 4, 0, 6, 0, 2, 4],
  [3, 3, 2, 0, 0, 4, 2, 4, 4, 1, 4, 0, 0, 0, 2, 4],
  [3, 3, 2, 1, 0, 4, 2, 4, 3, 2, 4, 1, 0, 0, 2, 4]]

/-- R108, R113: the condition of a conditional transfer's opcode (`JR cc`; `RET cc`, `JP cc`, `CALL cc`). -/
def opCond (op : Byte) : Option Cond :=
  if fieldX op = 0 ∧ fieldZ op = 0 ∧ 4 ≤ fieldY op then some (Cond.ofIndex (fieldY op - 4))
  else if fieldX op = 3 ∧ (fieldZ op = 0 ∨ fieldZ op = 2 ∨ fieldZ op = 4) ∧ fieldY op < 4 then some (Cond.ofIndex (fieldY op))
  else none

/-- The count of the path taken. -/
def opCycles (op : Byte) : Nat := (opCycleGrid.getD (op.toNat / 16) []).getD (op.toNat % 16) 0

/-- R471: a conditional transfer not taken: `JR cc` and `RET cc` 2, `JP cc` and `CALL cc` 3. -/
def notTakenCycles (op : Byte) : Nat := if fieldZ op = 0 then 2 else 3

/-- R254: `CB`-prefixed: 2 on a register; on `(HL)` 4, 3 for `BIT`. -/
def cbCycles (op2 : Byte) : Nat := if fieldZ op2 = 6 then (if fieldX op2 = 1 then 3 else 4) else 2

/-- The M-cycles of instruction `i` started in state `s`. -/
def cycles (i : Instr) (s : State) : Nat :=
  match encode i with
  | [] => 0
  | op :: rest =>
    if op = 0xCB then cbCycles (rest.getD 0 0)
    else match opCond op with
      | some cc => if s.cond cc then opCycles op else notTakenCycles op
      | none => opCycles op

end Sys2Proof.Machine
end

