-- ==== Sys2Proof/Machine/Memory.lean ====
section
/-! DEFINITION. The byte arrays in one canonical form, and the bus: `read` and `write` through the total, single-owner
address map (spec/20_memory.md R60 to R77). -/

namespace Sys2Proof.Machine

/-! ## One byte array -/

/-- The byte at index `i`; `dflt` where nothing is listed. -/
def Cells.get (dflt : Byte) (cs : Cells) (i : Nat) : Byte :=
  match cs with
  | [] => dflt
  | (k, w) :: rest => if i < k then dflt else if i = k then w else Cells.get dflt rest i

/-- The array with the byte at index `i` made `v`, in canonical form again. -/
def Cells.put (dflt : Byte) (cs : Cells) (i : Nat) (v : Byte) : Cells :=
  match cs with
  | [] => if v = dflt then [] else [(i, v)]
  | (k, w) :: rest =>
    if i < k then (if v = dflt then (k, w) :: rest else (i, v) :: (k, w) :: rest)
    else if i = k then (if v = dflt then rest else (i, v) :: rest)
    else (k, w) :: Cells.put dflt rest i v

/-- Canonical from index `lo` up: strictly rising indexes below `size`, no cell equal to `dflt`. -/
def Cells.wfFrom (dflt : Byte) (size lo : Nat) (cs : Cells) : Bool :=
  match cs with
  | [] => true
  | (k, w) :: rest => decide (lo ≤ k) && decide (k < size) && (w != dflt) && Cells.wfFrom dflt size (k + 1) rest

/-- The array of the bytes `bs` from index `lo` up. -/
def Cells.ofBytes (dflt : Byte) (lo : Nat) (bs : List Byte) : Cells :=
  match bs with
  | [] => []
  | b :: rest => if b = dflt then Cells.ofBytes dflt (lo + 1) rest else (lo, b) :: Cells.ofBytes dflt (lo + 1) rest

/-- The first `size` bytes of the array, in index order. -/
def Cells.bytes (dflt : Byte) (size : Nat) (cs : Cells) : List Byte :=
  (List.range size).map (Cells.get dflt cs)

/-! ## The arrays of the bus (R34) -/

/-- The byte arrays by name. -/
inductive Region where
  | rom | boot | vram | wram | oam | io | hram
  deriving DecidableEq, Repr

/-- R34: sizes in bytes. -/
def Region.size : Region → Nat
  | .rom => 32768
  | .boot => 256
  | .vram => 8192
  | .wram => 8192
  | .oam => 160
  | .io => 128
  | .hram => 127

/-- What the array reads where nothing is listed (R38, R370; log 1, log 2). -/
def Region.dflt : Region → Byte
  | .rom => Config.romPad
  | .boot => Config.romPad
  | .vram => Config.ramInit
  | .wram => Config.ramInit
  | .oam => Config.ramInit
  | .io => Config.ramInit
  | .hram => Config.ramInit

/-- R34: mutable after construction. -/
def Region.writable : Region → Bool
  | .rom => false
  | .boot => false
  | .vram => true
  | .wram => true
  | .oam => true
  | .io => true
  | .hram => true

def Memory.bank (m : Memory) : Region → Cells
  | .rom => m.rom
  | .boot => m.boot
  | .vram => m.vram
  | .wram => m.wram
  | .oam => m.oam
  | .io => m.io
  | .hram => m.hram

def Memory.setBank (m : Memory) (r : Region) (cs : Cells) : Memory :=
  match r with
  | .rom => { m with rom := cs }
  | .boot => { m with boot := cs }
  | .vram => { m with vram := cs }
  | .wram => { m with wram := cs }
  | .oam => { m with oam := cs }
  | .io => { m with io := cs }
  | .hram => { m with hram := cs }

/-- The byte at index `i` of array `r`. -/
def Memory.get (m : Memory) (r : Region) (i : Nat) : Byte := Cells.get r.dflt (m.bank r) i

/-- Array `r` with the byte at index `i` made `v`. -/
def Memory.put (m : Memory) (r : Region) (i : Nat) (v : Byte) : Memory :=
  m.setBank r (Cells.put r.dflt (m.bank r) i v)

/-- The canonical form of one array; `io` has no index 0x0F (R34, log 11). -/
def Memory.bankWf (m : Memory) (r : Region) : Bool :=
  Cells.wfFrom r.dflt r.size 0 (m.bank r) && (decide (r ≠ .io) || (m.get .io 0x0F == Region.dflt .io))

/-- Every array is in canonical form, so that equal memories are equal data. -/
def Memory.wf (m : Memory) : Bool :=
  m.bankWf .rom && m.bankWf .boot && m.bankWf .vram && m.bankWf .wram && m.bankWf .oam && m.bankWf .io && m.bankWf .hram

/-! ## The address map (R62, R63) -/

/-- Who owns an address. -/
inductive Owner where
  /-- byte `i` of an array -/
  | cell (r : Region) (i : Nat)
  /-- the interrupt-request register (R73) -/
  | ifReg
  /-- the boot-disable register (R74) -/
  | bootReg
  /-- the interrupt-enable register (R76) -/
  | ieReg
  /-- no owner (R67, R71, R77) -/
  | unmapped
  deriving DecidableEq, Repr

/-- R63: the owner of address `n`, row by row; `bootMapped` decides the first row alone. -/
def ownerOf (bootMapped : Bool) (n : Nat) : Owner :=
  if n < 0x0100 then (if bootMapped then .cell .boot n else .cell .rom n)
  else if n < 0x8000 then .cell .rom n
  else if n < 0xA000 then .cell .vram (n - 0x8000)
  else if n < 0xC000 then .unmapped
  else if n < 0xE000 then .cell .wram (n - 0xC000)
  else if n < 0xFE00 then .cell .wram (n - 0xE000)
  else if n < 0xFEA0 then .cell .oam (n - 0xFE00)
  else if n < 0xFF00 then .unmapped
  else if n < 0xFF0F then .cell .io (n - 0xFF00)
  else if n = 0xFF0F then .ifReg
  else if n < 0xFF50 then .cell .io (n - 0xFF00)
  else if n = 0xFF50 then .bootReg
  else if n < 0xFF80 then .cell .io (n - 0xFF00)
  else if n < 0xFFFF then .cell .hram (n - 0xFF80)
  else .ieReg

/-- The owner of a bus address in a state. -/
def State.owner (s : State) (addr : Word) : Owner := ownerOf s.bootMapped addr.toNat

/-- R60: the bus contract `read(address) -> byte`; total, changes nothing. -/
def State.read (s : State) (addr : Word) : Byte :=
  match s.owner addr with
  | .cell r i => s.mem.get r i
  | .ifReg => 0xE0 ||| s.iflag.setWidth 8
  | .bootReg => s.mem.get .io 0x50
  | .ieReg => s.ie
  | .unmapped => Config.openBus

/-- R61: the bus contract `write(address, byte)`; total. ROM and unmapped addresses discard the byte. -/
def State.write (s : State) (addr : Word) (v : Byte) : State :=
  match s.owner addr with
  | .cell r i => if r.writable then { s with mem := s.mem.put r i v } else s
  | .ifReg => { s with iflag := v.setWidth 5 }
  | .bootReg => { s with mem := s.mem.put .io 0x50 v, bootMapped := s.bootMapped && !v.getLsbD 0 }
  | .ieReg => { s with ie := v }
  | .unmapped => s

/-- R11, R79: `MemRead(addr, 2)`, the low byte at the lower address; the second address wraps (R80). -/
def State.read16 (s : State) (addr : Word) : Word := join (s.read (addr + 1)) (s.read addr)

/-- R11: `MemWrite(addr, 2, v)`, the low byte first. -/
def State.write16 (s : State) (addr : Word) (v : Word) : State := (s.write addr (lo v)).write (addr + 1) (hi v)

/-- Two addresses reach the same byte of storage when only the echo (R69) separates them: the address of the byte outside
the echo. -/
def homeAddr (addr : Word) : Word :=
  if 0xE000 ≤ addr.toNat ∧ addr.toNat < 0xFE00 then addr - 0x2000 else addr

end Sys2Proof.Machine
end

