-- ==== Sys2Proof/Machine/Operands.lean ====
section
/-! DEFINITION. Every operand form: register pairs (spec/10_state.md R22) and the operand tables of spec/30_encoding.md
R104 to R107. -/

namespace Sys2Proof.Machine

/-- R22: a pair is an alias of two registers, high byte first. -/
def State.bc (s : State) : Word := join s.b s.c
def State.de (s : State) : Word := join s.d s.e
def State.hl (s : State) : Word := join s.h s.l
def State.af (s : State) : Word := join s.a s.f

/-- R22: writing a pair writes its two registers. -/
def State.setBC (s : State) (w : Word) : State := { s with b := hi w, c := lo w }
def State.setDE (s : State) (w : Word) : State := { s with d := hi w, e := lo w }
def State.setHL (s : State) (w : Word) : State := { s with h := hi w, l := lo w }
/-- R22: `AF <- w` keeps bits 7:4 of the low byte only. -/
def State.setAF (s : State) (w : Word) : State := { s with a := hi w, f := lo w &&& 0xF0 }

/-- R104: read `r8[i]`; index 6 is the byte at `HL`. -/
def State.getR8 (s : State) : R8 → Byte
  | .B => s.b
  | .C => s.c
  | .D => s.d
  | .E => s.e
  | .H => s.h
  | .L => s.l
  | .mHL => s.read s.hl
  | .A => s.a

/-- R104: write `r8[i]`. -/
def State.setR8 (s : State) (r : R8) (v : Byte) : State :=
  match r with
  | .B => { s with b := v }
  | .C => { s with c := v }
  | .D => { s with d := v }
  | .E => { s with e := v }
  | .H => { s with h := v }
  | .L => { s with l := v }
  | .mHL => s.write s.hl v
  | .A => { s with a := v }

/-- R105: read `r16[p]`. -/
def State.getR16 (s : State) : R16 → Word
  | .BC => s.bc
  | .DE => s.de
  | .HL => s.hl
  | .SP => s.sp

/-- R105: write `r16[p]`. -/
def State.setR16 (s : State) (p : R16) (w : Word) : State :=
  match p with
  | .BC => s.setBC w
  | .DE => s.setDE w
  | .HL => s.setHL w
  | .SP => { s with sp := w }

/-- R106: read `r16stk[p]`. -/
def State.getStk (s : State) : R16Stk → Word
  | .BC => s.bc
  | .DE => s.de
  | .HL => s.hl
  | .AF => s.af

/-- R106: write `r16stk[p]`. -/
def State.setStk (s : State) (p : R16Stk) (w : Word) : State :=
  match p with
  | .BC => s.setBC w
  | .DE => s.setDE w
  | .HL => s.setHL w
  | .AF => s.setAF w

/-- R107: the address `r16mem[p]` gives. -/
def State.memAddr (s : State) : R16Mem → Word
  | .BC => s.bc
  | .DE => s.de
  | .HLi => s.hl
  | .HLd => s.hl

/-- R107: what using `r16mem[p]` does to `HL` afterwards. -/
def State.memStep (s : State) : R16Mem → State
  | .BC => s
  | .DE => s
  | .HLi => s.setHL (s.hl + 1)
  | .HLd => s.setHL (s.hl - 1)

/-- R151 to R154: an address of the high page, `0xFF00 + n`. -/
def highPage (n : Byte) : Word := 0xFF00 + zext16 n

end Sys2Proof.Machine
end

