-- ==== Sys2Proof/Machine/Ops.lean ====
section
/-! DEFINITION. The named operations the meanings share: fetching (spec/00_scope.md R12), the stack (R13), taking an interrupt
and returning from one (spec/60_exceptions.md R404, R421), and the outcome of an instruction that completes. -/

namespace Sys2Proof.Machine

/-- What an instruction answers. -/
abbrev Result := Host.Outcome State Fault Refusal

/-! ## Fetching (R12) -/

/-- `Fetch8()`: the byte at `PC`, and the state with `PC` advanced, unless the halt bug is armed, which it clears. -/
def State.fetch8 (s : State) : Byte × State :=
  (s.read s.pc, if s.haltBug then { s with haltBug := false } else { s with pc := s.pc + 1 })

/-- `n` times `Fetch8()`: the bytes read, and the state after. -/
def State.fetchBytes (n : Nat) (s : State) : List Byte × State :=
  match n with
  | 0 => ([], s)
  | k + 1 =>
    let (b, s1) := s.fetch8
    let (bs, s2) := State.fetchBytes k s1
    (b :: bs, s2)

/-- The state after the `n` bytes of an instruction have been fetched: `PC` addresses the byte after them (R24). -/
def State.fetched (n : Nat) (s : State) : State := (State.fetchBytes n s).2

/-- An instruction of `n` bytes that completes: its bytes are fetched, then its operation runs (R103). -/
def complete (n : Nat) (operation : State → State) (s : State) : Result := .next (operation (s.fetched n))

/-! ## The stack (R13) -/

/-- `Push16(w)`: the high byte first, at the higher address; each write has its full effect in order (R464). -/
def State.push16 (s : State) (w : Word) : State :=
  let s1 := { s with sp := s.sp - 1 }
  let s2 := s1.write s1.sp (hi w)
  let s3 := { s2 with sp := s2.sp - 1 }
  s3.write s3.sp (lo w)

/-- `Pop16()`: the low byte first. -/
def State.pop16 (s : State) : Word × State :=
  let l := s.read s.sp
  let s1 := { s with sp := s.sp + 1 }
  let h := s1.read s1.sp
  (join h l, { s1 with sp := s1.sp + 1 })

/-! ## Interrupts (R404, R411, R421) -/

/-- `pending = IE & IF & 0x1F` (R400). -/
def State.pending (s : State) : BitVec 5 := s.ie.setWidth 5 &&& s.iflag

/-- R404, R413: the least `i` in 0..4 with `pending[i] = 1` (4 if none is below it). -/
def lowestPending (p : BitVec 5) : Nat :=
  if p.getLsbD 0 then 0 else if p.getLsbD 1 then 1 else if p.getLsbD 2 then 2 else if p.getLsbD 3 then 3 else 4

/-- R411: the vector of source `i`, `0x0040 + 8i`. -/
def vector (i : Nat) : Word := BitVec.ofNat 16 (0x0040 + 8 * i)

/-- R404, `Dispatch(pending)`, the one way an interrupt is taken: the request is acknowledged, interrupts are masked, `PC` is
pushed, and control goes to the vector chosen before the push (R464). -/
def State.dispatch (s : State) : State :=
  let i := lowestPending s.pending
  let s1 := { s with iflag := s.iflag &&& ~~~((1 : BitVec 5) <<< i), ime := false, imePending := false }
  let s2 := s1.push16 s1.pc
  { s2 with pc := vector i }

/-- R298: pop the return address into `PC`. -/
def State.returnFromCall (s : State) : State :=
  let (w, s1) := s.pop16
  { s1 with pc := w }

/-- R300, R421: the return from an interrupt: pop `PC`, and `IME` is 1 at once. Nothing else is restored. -/
def State.returnFromInterrupt (s : State) : State := { s.returnFromCall with ime := true }

/-- R296: push the return address and jump. -/
def State.callTo (s : State) (target : Word) : State := { s.push16 s.pc with pc := target }

end Sys2Proof.Machine
end

