-- ==== Sys2Proof/Machine/Alu16.lean ====
section
/-! DEFINITION. 16-bit arithmetic (spec/43_alu16.md R230 to R234). -/

namespace Sys2Proof.Machine

/-! ## The shared operations -/

/-- R230: `HL <- HL + r16[p]`; `Z` keeps its value. -/
def addHL (p : R16) (s : State) : State :=
  let v := s.getR16 p
  (s.setHL (s.hl + v)).setFlags s.zf false (addHalf16 s.hl v) (addCarry16 s.hl v)

/-- R231: no flag changes. -/
def incPair (p : R16) (s : State) : State := s.setR16 p (s.getR16 p + 1)

/-- R232: no flag changes. -/
def decPair (p : R16) (s : State) : State := s.setR16 p (s.getR16 p - 1)

/-- R233: `SP <- SP + e`; both flags from the low byte and the raw displacement byte. -/
def addSP (e : Byte) (s : State) : State :=
  { s with sp := s.sp + sext16 e }.setFlags false false (spHalf s.sp e) (spCarry s.sp e)

/-- R234: `HL <- SP + e`, flags as R233; `SP` is unchanged. -/
def ldHLSP (e : Byte) (s : State) : State :=
  (s.setHL (s.sp + sext16 e)).setFlags false false (spHalf s.sp e) (spCarry s.sp e)

/-! ## R230 to R234 -/

def exec_add_HL_BC (s : State) : Result := complete 1 (addHL .BC) s
def exec_add_HL_DE (s : State) : Result := complete 1 (addHL .DE) s
def exec_add_HL_HL (s : State) : Result := complete 1 (addHL .HL) s
def exec_add_HL_SP (s : State) : Result := complete 1 (addHL .SP) s
def exec_inc_BC (s : State) : Result := complete 1 (incPair .BC) s
def exec_inc_DE (s : State) : Result := complete 1 (incPair .DE) s
def exec_inc_HL (s : State) : Result := complete 1 (incPair .HL) s
def exec_inc_SP (s : State) : Result := complete 1 (incPair .SP) s
def exec_dec_BC (s : State) : Result := complete 1 (decPair .BC) s
def exec_dec_DE (s : State) : Result := complete 1 (decPair .DE) s
def exec_dec_HL (s : State) : Result := complete 1 (decPair .HL) s
def exec_dec_SP (s : State) : Result := complete 1 (decPair .SP) s
def exec_add_SP_e (e : Byte) (s : State) : Result := complete 2 (addSP e) s
def exec_ld_HL_SPe (e : Byte) (s : State) : Result := complete 2 (ldHLSP e) s

end Sys2Proof.Machine
end

