-- ==== Sys2Proof/Machine/Alu8.lean ====
section
/-! DEFINITION. 8-bit arithmetic and logic (spec/42_alu8.md R190 to R207). -/

namespace Sys2Proof.Machine

/-! ## The shared operations -/

/-- The carry flag as the number 0 or 1. -/
def State.carryIn (s : State) : Nat := bit s.cf

/-- R191, R192: `A <- A + b + c`. -/
def addOp (c : Nat) (v : Byte) (s : State) : State :=
  let r := s.a + v + BitVec.ofNat 8 c
  { s with a := r }.setFlags (r == 0) false (addHalf s.a v c) (addCarry s.a v c)

/-- R193, R194: `A <- A - b - c`. -/
def subOp (c : Nat) (v : Byte) (s : State) : State :=
  let r := s.a - v - BitVec.ofNat 8 c
  { s with a := r }.setFlags (r == 0) true (subHalf s.a v c) (subBorrow s.a v c)

/-- R195. -/
def andOp (v : Byte) (s : State) : State :=
  let r := s.a &&& v
  { s with a := r }.setFlags (r == 0) false true false

/-- R196. -/
def xorOp (v : Byte) (s : State) : State :=
  let r := s.a ^^^ v
  { s with a := r }.setFlags (r == 0) false false false

/-- R197. -/
def orOp (v : Byte) (s : State) : State :=
  let r := s.a ||| v
  { s with a := r }.setFlags (r == 0) false false false

/-- R198: as `SUB`, but `A` is not written. -/
def cpOp (v : Byte) (s : State) : State :=
  s.setFlags (s.a == v) true (subHalf s.a v 0) (subBorrow s.a v 0)

/-- R109: `alu[y]` with second operand `v`. -/
def aluOp (op : AluOp) (v : Byte) (s : State) : State :=
  match op with
  | .add => addOp 0 v s
  | .adc => addOp s.carryIn v s
  | .sub => subOp 0 v s
  | .sbc => subOp s.carryIn v s
  | .and => andOp v s
  | .xor => xorOp v s
  | .or => orOp v s
  | .cp => cpOp v s

/-- R190: `op A,r` and `op A,(HL)`; the operand is read before `A` is written. -/
def aluReg (op : AluOp) (r : R8) (s : State) : State := aluOp op (s.getR8 r) s

/-- R199, R200: increment `r8[d]`; the carry flag keeps its value. -/
def incOp (d : R8) (s : State) : State :=
  let v := s.getR8 d
  (s.setR8 d (v + 1)).setFlags (v + 1 == 0) false (incHalf v) s.cf

/-- R201, R202: decrement `r8[d]`; the carry flag keeps its value. -/
def decOp (d : R8) (s : State) : State :=
  let v := s.getR8 d
  (s.setR8 d (v - 1)).setFlags (v - 1 == 0) true (decHalf v) s.cf

/-- R203: the adjustment after an addition adds 0x06 and 0x60 by the value of `A` and the flags. -/
def daaAddLow (s : State) : Bool := s.hf || decide (s.a.toNat % 16 > 0x09)
def daaAddHigh (s : State) : Bool := s.cf || decide (s.a.toNat > 0x99)

/-- R203. -/
def daaOp (s : State) : State :=
  if s.nf then
    let r := s.a - ((if s.hf then 0x06 else 0) ||| (if s.cf then 0x60 else 0))
    { s with a := r }.setFlags (r == 0) true false s.cf
  else
    let r := s.a + ((if daaAddLow s then 0x06 else 0) ||| (if daaAddHigh s then 0x60 else 0))
    { s with a := r }.setFlags (r == 0) false false (daaAddHigh s)

/-- R204. -/
def cplOp (s : State) : State := { s with a := s.a ^^^ 0xFF }.setFlags s.zf true true s.cf

/-- R205. -/
def scfOp (s : State) : State := s.setFlags s.zf false false true

/-- R206. -/
def ccfOp (s : State) : State := s.setFlags s.zf false false (!s.cf)

/-! ## R191: `ADD` -/

def exec_add_A_B (s : State) : Result := complete 1 (aluReg .add .B) s
def exec_add_A_C (s : State) : Result := complete 1 (aluReg .add .C) s
def exec_add_A_D (s : State) : Result := complete 1 (aluReg .add .D) s
def exec_add_A_E (s : State) : Result := complete 1 (aluReg .add .E) s
def exec_add_A_H (s : State) : Result := complete 1 (aluReg .add .H) s
def exec_add_A_L (s : State) : Result := complete 1 (aluReg .add .L) s
def exec_add_A_mHL (s : State) : Result := complete 1 (aluReg .add .mHL) s
def exec_add_A_A (s : State) : Result := complete 1 (aluReg .add .A) s
def exec_add_A_n (n : Byte) (s : State) : Result := complete 2 (aluOp .add n) s

/-! ## R192: `ADC` -/

def exec_adc_A_B (s : State) : Result := complete 1 (aluReg .adc .B) s
def exec_adc_A_C (s : State) : Result := complete 1 (aluReg .adc .C) s
def exec_adc_A_D (s : State) : Result := complete 1 (aluReg .adc .D) s
def exec_adc_A_E (s : State) : Result := complete 1 (aluReg .adc .E) s
def exec_adc_A_H (s : State) : Result := complete 1 (aluReg .adc .H) s
def exec_adc_A_L (s : State) : Result := complete 1 (aluReg .adc .L) s
def exec_adc_A_mHL (s : State) : Result := complete 1 (aluReg .adc .mHL) s
def exec_adc_A_A (s : State) : Result := complete 1 (aluReg .adc .A) s
def exec_adc_A_n (n : Byte) (s : State) : Result := complete 2 (aluOp .adc n) s

/-! ## R193: `SUB` -/

def exec_sub_A_B (s : State) : Result := complete 1 (aluReg .sub .B) s
def exec_sub_A_C (s : State) : Result := complete 1 (aluReg .sub .C) s
def exec_sub_A_D (s : State) : Result := complete 1 (aluReg .sub .D) s
def exec_sub_A_E (s : State) : Result := complete 1 (aluReg .sub .E) s
def exec_sub_A_H (s : State) : Result := complete 1 (aluReg .sub .H) s
def exec_sub_A_L (s : State) : Result := complete 1 (aluReg .sub .L) s
def exec_sub_A_mHL (s : State) : Result := complete 1 (aluReg .sub .mHL) s
def exec_sub_A_A (s : State) : Result := complete 1 (aluReg .sub .A) s
def exec_sub_A_n (n : Byte) (s : State) : Result := complete 2 (aluOp .sub n) s

/-! ## R194: `SBC` -/

def exec_sbc_A_B (s : State) : Result := complete 1 (aluReg .sbc .B) s
def exec_sbc_A_C (s : State) : Result := complete 1 (aluReg .sbc .C) s
def exec_sbc_A_D (s : State) : Result := complete 1 (aluReg .sbc .D) s
def exec_sbc_A_E (s : State) : Result := complete 1 (aluReg .sbc .E) s
def exec_sbc_A_H (s : State) : Result := complete 1 (aluReg .sbc .H) s
def exec_sbc_A_L (s : State) : Result := complete 1 (aluReg .sbc .L) s
def exec_sbc_A_mHL (s : State) : Result := complete 1 (aluReg .sbc .mHL) s
def exec_sbc_A_A (s : State) : Result := complete 1 (aluReg .sbc .A) s
def exec_sbc_A_n (n : Byte) (s : State) : Result := complete 2 (aluOp .sbc n) s

/-! ## R195: `AND` -/

def exec_and_A_B (s : State) : Result := complete 1 (aluReg .and .B) s
def exec_and_A_C (s : State) : Result := complete 1 (aluReg .and .C) s
def exec_and_A_D (s : State) : Result := complete 1 (aluReg .and .D) s
def exec_and_A_E (s : State) : Result := complete 1 (aluReg .and .E) s
def exec_and_A_H (s : State) : Result := complete 1 (aluReg .and .H) s
def exec_and_A_L (s : State) : Result := complete 1 (aluReg .and .L) s
def exec_and_A_mHL (s : State) : Result := complete 1 (aluReg .and .mHL) s
def exec_and_A_A (s : State) : Result := complete 1 (aluReg .and .A) s
def exec_and_A_n (n : Byte) (s : State) : Result := complete 2 (aluOp .and n) s

/-! ## R196: `XOR` -/

def exec_xor_A_B (s : State) : Result := complete 1 (aluReg .xor .B) s
def exec_xor_A_C (s : State) : Result := complete 1 (aluReg .xor .C) s
def exec_xor_A_D (s : State) : Result := complete 1 (aluReg .xor .D) s
def exec_xor_A_E (s : State) : Result := complete 1 (aluReg .xor .E) s
def exec_xor_A_H (s : State) : Result := complete 1 (aluReg .xor .H) s
def exec_xor_A_L (s : State) : Result := complete 1 (aluReg .xor .L) s
def exec_xor_A_mHL (s : State) : Result := complete 1 (aluReg .xor .mHL) s
def exec_xor_A_A (s : State) : Result := complete 1 (aluReg .xor .A) s
def exec_xor_A_n (n : Byte) (s : State) : Result := complete 2 (aluOp .xor n) s

/-! ## R197: `OR` -/

def exec_or_A_B (s : State) : Result := complete 1 (aluReg .or .B) s
def exec_or_A_C (s : State) : Result := complete 1 (aluReg .or .C) s
def exec_or_A_D (s : State) : Result := complete 1 (aluReg .or .D) s
def exec_or_A_E (s : State) : Result := complete 1 (aluReg .or .E) s
def exec_or_A_H (s : State) : Result := complete 1 (aluReg .or .H) s
def exec_or_A_L (s : State) : Result := complete 1 (aluReg .or .L) s
def exec_or_A_mHL (s : State) : Result := complete 1 (aluReg .or .mHL) s
def exec_or_A_A (s : State) : Result := complete 1 (aluReg .or .A) s
def exec_or_A_n (n : Byte) (s : State) : Result := complete 2 (aluOp .or n) s

/-! ## R198: `CP` -/

def exec_cp_A_B (s : State) : Result := complete 1 (aluReg .cp .B) s
def exec_cp_A_C (s : State) : Result := complete 1 (aluReg .cp .C) s
def exec_cp_A_D (s : State) : Result := complete 1 (aluReg .cp .D) s
def exec_cp_A_E (s : State) : Result := complete 1 (aluReg .cp .E) s
def exec_cp_A_H (s : State) : Result := complete 1 (aluReg .cp .H) s
def exec_cp_A_L (s : State) : Result := complete 1 (aluReg .cp .L) s
def exec_cp_A_mHL (s : State) : Result := complete 1 (aluReg .cp .mHL) s
def exec_cp_A_A (s : State) : Result := complete 1 (aluReg .cp .A) s
def exec_cp_A_n (n : Byte) (s : State) : Result := complete 2 (aluOp .cp n) s

/-! ## R199, R200: `INC` -/

def exec_inc_B (s : State) : Result := complete 1 (incOp .B) s
def exec_inc_C (s : State) : Result := complete 1 (incOp .C) s
def exec_inc_D (s : State) : Result := complete 1 (incOp .D) s
def exec_inc_E (s : State) : Result := complete 1 (incOp .E) s
def exec_inc_H (s : State) : Result := complete 1 (incOp .H) s
def exec_inc_L (s : State) : Result := complete 1 (incOp .L) s
def exec_inc_mHL (s : State) : Result := complete 1 (incOp .mHL) s
def exec_inc_A (s : State) : Result := complete 1 (incOp .A) s

/-! ## R201, R202: `DEC` -/

def exec_dec_B (s : State) : Result := complete 1 (decOp .B) s
def exec_dec_C (s : State) : Result := complete 1 (decOp .C) s
def exec_dec_D (s : State) : Result := complete 1 (decOp .D) s
def exec_dec_E (s : State) : Result := complete 1 (decOp .E) s
def exec_dec_H (s : State) : Result := complete 1 (decOp .H) s
def exec_dec_L (s : State) : Result := complete 1 (decOp .L) s
def exec_dec_mHL (s : State) : Result := complete 1 (decOp .mHL) s
def exec_dec_A (s : State) : Result := complete 1 (decOp .A) s

/-! ## R203 to R206 -/

def exec_daa (s : State) : Result := complete 1 daaOp s
def exec_cpl (s : State) : Result := complete 1 cplOp s
def exec_scf (s : State) : Result := complete 1 scfOp s
def exec_ccf (s : State) : Result := complete 1 ccfOp s

end Sys2Proof.Machine
end

