-- ==== Sys2Proof/Machine/BitOps.lean ====
section
/-! DEFINITION. `BIT`, `RES` and `SET` (spec/44_rotate_shift_bit.md R263 to R265). -/

namespace Sys2Proof.Machine

/-! ## The shared operations -/

/-- R263: `Z` is 1 when bit `n` of `r8[o]` is 0; the carry flag keeps its value; nothing is written back. -/
def bitOp (n : Nat) (o : R8) (s : State) : State := s.setFlags (!(s.getR8 o).getLsbD n) false true s.cf

/-- R264: clear bit `n` of `r8[o]`; no flag changes. -/
def resOp (n : Nat) (o : R8) (s : State) : State := s.setR8 o (s.getR8 o &&& ~~~((1 : Byte) <<< n))

/-- R265: set bit `n` of `r8[o]`; no flag changes. -/
def setOp (n : Nat) (o : R8) (s : State) : State := s.setR8 o (s.getR8 o ||| ((1 : Byte) <<< n))

/-! ## R263: `BIT` -/

def exec_bit_0_B (s : State) : Result := complete 2 (bitOp 0 .B) s
def exec_bit_0_C (s : State) : Result := complete 2 (bitOp 0 .C) s
def exec_bit_0_D (s : State) : Result := complete 2 (bitOp 0 .D) s
def exec_bit_0_E (s : State) : Result := complete 2 (bitOp 0 .E) s
def exec_bit_0_H (s : State) : Result := complete 2 (bitOp 0 .H) s
def exec_bit_0_L (s : State) : Result := complete 2 (bitOp 0 .L) s
def exec_bit_0_mHL (s : State) : Result := complete 2 (bitOp 0 .mHL) s
def exec_bit_0_A (s : State) : Result := complete 2 (bitOp 0 .A) s
def exec_bit_1_B (s : State) : Result := complete 2 (bitOp 1 .B) s
def exec_bit_1_C (s : State) : Result := complete 2 (bitOp 1 .C) s
def exec_bit_1_D (s : State) : Result := complete 2 (bitOp 1 .D) s
def exec_bit_1_E (s : State) : Result := complete 2 (bitOp 1 .E) s
def exec_bit_1_H (s : State) : Result := complete 2 (bitOp 1 .H) s
def exec_bit_1_L (s : State) : Result := complete 2 (bitOp 1 .L) s
def exec_bit_1_mHL (s : State) : Result := complete 2 (bitOp 1 .mHL) s
def exec_bit_1_A (s : State) : Result := complete 2 (bitOp 1 .A) s
def exec_bit_2_B (s : State) : Result := complete 2 (bitOp 2 .B) s
def exec_bit_2_C (s : State) : Result := complete 2 (bitOp 2 .C) s
def exec_bit_2_D (s : State) : Result := complete 2 (bitOp 2 .D) s
def exec_bit_2_E (s : State) : Result := complete 2 (bitOp 2 .E) s
def exec_bit_2_H (s : State) : Result := complete 2 (bitOp 2 .H) s
def exec_bit_2_L (s : State) : Result := complete 2 (bitOp 2 .L) s
def exec_bit_2_mHL (s : State) : Result := complete 2 (bitOp 2 .mHL) s
def exec_bit_2_A (s : State) : Result := complete 2 (bitOp 2 .A) s
def exec_bit_3_B (s : State) : Result := complete 2 (bitOp 3 .B) s
def exec_bit_3_C (s : State) : Result := complete 2 (bitOp 3 .C) s
def exec_bit_3_D (s : State) : Result := complete 2 (bitOp 3 .D) s
def exec_bit_3_E (s : State) : Result := complete 2 (bitOp 3 .E) s
def exec_bit_3_H (s : State) : Result := complete 2 (bitOp 3 .H) s
def exec_bit_3_L (s : State) : Result := complete 2 (bitOp 3 .L) s
def exec_bit_3_mHL (s : State) : Result := complete 2 (bitOp 3 .mHL) s
def exec_bit_3_A (s : State) : Result := complete 2 (bitOp 3 .A) s
def exec_bit_4_B (s : State) : Result := complete 2 (bitOp 4 .B) s
def exec_bit_4_C (s : State) : Result := complete 2 (bitOp 4 .C) s
def exec_bit_4_D (s : State) : Result := complete 2 (bitOp 4 .D) s
def exec_bit_4_E (s : State) : Result := complete 2 (bitOp 4 .E) s
def exec_bit_4_H (s : State) : Result := complete 2 (bitOp 4 .H) s
def exec_bit_4_L (s : State) : Result := complete 2 (bitOp 4 .L) s
def exec_bit_4_mHL (s : State) : Result := complete 2 (bitOp 4 .mHL) s
def exec_bit_4_A (s : State) : Result := complete 2 (bitOp 4 .A) s
def exec_bit_5_B (s : State) : Result := complete 2 (bitOp 5 .B) s
def exec_bit_5_C (s : State) : Result := complete 2 (bitOp 5 .C) s
def exec_bit_5_D (s : State) : Result := complete 2 (bitOp 5 .D) s
def exec_bit_5_E (s : State) : Result := complete 2 (bitOp 5 .E) s
def exec_bit_5_H (s : State) : Result := complete 2 (bitOp 5 .H) s
def exec_bit_5_L (s : State) : Result := complete 2 (bitOp 5 .L) s
def exec_bit_5_mHL (s : State) : Result := complete 2 (bitOp 5 .mHL) s
def exec_bit_5_A (s : State) : Result := complete 2 (bitOp 5 .A) s
def exec_bit_6_B (s : State) : Result := complete 2 (bitOp 6 .B) s
def exec_bit_6_C (s : State) : Result := complete 2 (bitOp 6 .C) s
def exec_bit_6_D (s : State) : Result := complete 2 (bitOp 6 .D) s
def exec_bit_6_E (s : State) : Result := complete 2 (bitOp 6 .E) s
def exec_bit_6_H (s : State) : Result := complete 2 (bitOp 6 .H) s
def exec_bit_6_L (s : State) : Result := complete 2 (bitOp 6 .L) s
def exec_bit_6_mHL (s : State) : Result := complete 2 (bitOp 6 .mHL) s
def exec_bit_6_A (s : State) : Result := complete 2 (bitOp 6 .A) s
def exec_bit_7_B (s : State) : Result := complete 2 (bitOp 7 .B) s
def exec_bit_7_C (s : State) : Result := complete 2 (bitOp 7 .C) s
def exec_bit_7_D (s : State) : Result := complete 2 (bitOp 7 .D) s
def exec_bit_7_E (s : State) : Result := complete 2 (bitOp 7 .E) s
def exec_bit_7_H (s : State) : Result := complete 2 (bitOp 7 .H) s
def exec_bit_7_L (s : State) : Result := complete 2 (bitOp 7 .L) s
def exec_bit_7_mHL (s : State) : Result := complete 2 (bitOp 7 .mHL) s
def exec_bit_7_A (s : State) : Result := complete 2 (bitOp 7 .A) s

/-! ## R264: `RES` -/

def exec_res_0_B (s : State) : Result := complete 2 (resOp 0 .B) s
def exec_res_0_C (s : State) : Result := complete 2 (resOp 0 .C) s
def exec_res_0_D (s : State) : Result := complete 2 (resOp 0 .D) s
def exec_res_0_E (s : State) : Result := complete 2 (resOp 0 .E) s
def exec_res_0_H (s : State) : Result := complete 2 (resOp 0 .H) s
def exec_res_0_L (s : State) : Result := complete 2 (resOp 0 .L) s
def exec_res_0_mHL (s : State) : Result := complete 2 (resOp 0 .mHL) s
def exec_res_0_A (s : State) : Result := complete 2 (resOp 0 .A) s
def exec_res_1_B (s : State) : Result := complete 2 (resOp 1 .B) s
def exec_res_1_C (s : State) : Result := complete 2 (resOp 1 .C) s
def exec_res_1_D (s : State) : Result := complete 2 (resOp 1 .D) s
def exec_res_1_E (s : State) : Result := complete 2 (resOp 1 .E) s
def exec_res_1_H (s : State) : Result := complete 2 (resOp 1 .H) s
def exec_res_1_L (s : State) : Result := complete 2 (resOp 1 .L) s
def exec_res_1_mHL (s : State) : Result := complete 2 (resOp 1 .mHL) s
def exec_res_1_A (s : State) : Result := complete 2 (resOp 1 .A) s
def exec_res_2_B (s : State) : Result := complete 2 (resOp 2 .B) s
def exec_res_2_C (s : State) : Result := complete 2 (resOp 2 .C) s
def exec_res_2_D (s : State) : Result := complete 2 (resOp 2 .D) s
def exec_res_2_E (s : State) : Result := complete 2 (resOp 2 .E) s
def exec_res_2_H (s : State) : Result := complete 2 (resOp 2 .H) s
def exec_res_2_L (s : State) : Result := complete 2 (resOp 2 .L) s
def exec_res_2_mHL (s : State) : Result := complete 2 (resOp 2 .mHL) s
def exec_res_2_A (s : State) : Result := complete 2 (resOp 2 .A) s
def exec_res_3_B (s : State) : Result := complete 2 (resOp 3 .B) s
def exec_res_3_C (s : State) : Result := complete 2 (resOp 3 .C) s
def exec_res_3_D (s : State) : Result := complete 2 (resOp 3 .D) s
def exec_res_3_E (s : State) : Result := complete 2 (resOp 3 .E) s
def exec_res_3_H (s : State) : Result := complete 2 (resOp 3 .H) s
def exec_res_3_L (s : State) : Result := complete 2 (resOp 3 .L) s
def exec_res_3_mHL (s : State) : Result := complete 2 (resOp 3 .mHL) s
def exec_res_3_A (s : State) : Result := complete 2 (resOp 3 .A) s
def exec_res_4_B (s : State) : Result := complete 2 (resOp 4 .B) s
def exec_res_4_C (s : State) : Result := complete 2 (resOp 4 .C) s
def exec_res_4_D (s : State) : Result := complete 2 (resOp 4 .D) s
def exec_res_4_E (s : State) : Result := complete 2 (resOp 4 .E) s
def exec_res_4_H (s : State) : Result := complete 2 (resOp 4 .H) s
def exec_res_4_L (s : State) : Result := complete 2 (resOp 4 .L) s
def exec_res_4_mHL (s : State) : Result := complete 2 (resOp 4 .mHL) s
def exec_res_4_A (s : State) : Result := complete 2 (resOp 4 .A) s
def exec_res_5_B (s : State) : Result := complete 2 (resOp 5 .B) s
def exec_res_5_C (s : State) : Result := complete 2 (resOp 5 .C) s
def exec_res_5_D (s : State) : Result := complete 2 (resOp 5 .D) s
def exec_res_5_E (s : State) : Result := complete 2 (resOp 5 .E) s
def exec_res_5_H (s : State) : Result := complete 2 (resOp 5 .H) s
def exec_res_5_L (s : State) : Result := complete 2 (resOp 5 .L) s
def exec_res_5_mHL (s : State) : Result := complete 2 (resOp 5 .mHL) s
def exec_res_5_A (s : State) : Result := complete 2 (resOp 5 .A) s
def exec_res_6_B (s : State) : Result := complete 2 (resOp 6 .B) s
def exec_res_6_C (s : State) : Result := complete 2 (resOp 6 .C) s
def exec_res_6_D (s : State) : Result := complete 2 (resOp 6 .D) s
def exec_res_6_E (s : State) : Result := complete 2 (resOp 6 .E) s
def exec_res_6_H (s : State) : Result := complete 2 (resOp 6 .H) s
def exec_res_6_L (s : State) : Result := complete 2 (resOp 6 .L) s
def exec_res_6_mHL (s : State) : Result := complete 2 (resOp 6 .mHL) s
def exec_res_6_A (s : State) : Result := complete 2 (resOp 6 .A) s
def exec_res_7_B (s : State) : Result := complete 2 (resOp 7 .B) s
def exec_res_7_C (s : State) : Result := complete 2 (resOp 7 .C) s
def exec_res_7_D (s : State) : Result := complete 2 (resOp 7 .D) s
def exec_res_7_E (s : State) : Result := complete 2 (resOp 7 .E) s
def exec_res_7_H (s : State) : Result := complete 2 (resOp 7 .H) s
def exec_res_7_L (s : State) : Result := complete 2 (resOp 7 .L) s
def exec_res_7_mHL (s : State) : Result := complete 2 (resOp 7 .mHL) s
def exec_res_7_A (s : State) : Result := complete 2 (resOp 7 .A) s

/-! ## R265: `SET` -/

def exec_set_0_B (s : State) : Result := complete 2 (setOp 0 .B) s
def exec_set_0_C (s : State) : Result := complete 2 (setOp 0 .C) s
def exec_set_0_D (s : State) : Result := complete 2 (setOp 0 .D) s
def exec_set_0_E (s : State) : Result := complete 2 (setOp 0 .E) s
def exec_set_0_H (s : State) : Result := complete 2 (setOp 0 .H) s
def exec_set_0_L (s : State) : Result := complete 2 (setOp 0 .L) s
def exec_set_0_mHL (s : State) : Result := complete 2 (setOp 0 .mHL) s
def exec_set_0_A (s : State) : Result := complete 2 (setOp 0 .A) s
def exec_set_1_B (s : State) : Result := complete 2 (setOp 1 .B) s
def exec_set_1_C (s : State) : Result := complete 2 (setOp 1 .C) s
def exec_set_1_D (s : State) : Result := complete 2 (setOp 1 .D) s
def exec_set_1_E (s : State) : Result := complete 2 (setOp 1 .E) s
def exec_set_1_H (s : State) : Result := complete 2 (setOp 1 .H) s
def exec_set_1_L (s : State) : Result := complete 2 (setOp 1 .L) s
def exec_set_1_mHL (s : State) : Result := complete 2 (setOp 1 .mHL) s
def exec_set_1_A (s : State) : Result := complete 2 (setOp 1 .A) s
def exec_set_2_B (s : State) : Result := complete 2 (setOp 2 .B) s
def exec_set_2_C (s : State) : Result := complete 2 (setOp 2 .C) s
def exec_set_2_D (s : State) : Result := complete 2 (setOp 2 .D) s
def exec_set_2_E (s : State) : Result := complete 2 (setOp 2 .E) s
def exec_set_2_H (s : State) : Result := complete 2 (setOp 2 .H) s
def exec_set_2_L (s : State) : Result := complete 2 (setOp 2 .L) s
def exec_set_2_mHL (s : State) : Result := complete 2 (setOp 2 .mHL) s
def exec_set_2_A (s : State) : Result := complete 2 (setOp 2 .A) s
def exec_set_3_B (s : State) : Result := complete 2 (setOp 3 .B) s
def exec_set_3_C (s : State) : Result := complete 2 (setOp 3 .C) s
def exec_set_3_D (s : State) : Result := complete 2 (setOp 3 .D) s
def exec_set_3_E (s : State) : Result := complete 2 (setOp 3 .E) s
def exec_set_3_H (s : State) : Result := complete 2 (setOp 3 .H) s
def exec_set_3_L (s : State) : Result := complete 2 (setOp 3 .L) s
def exec_set_3_mHL (s : State) : Result := complete 2 (setOp 3 .mHL) s
def exec_set_3_A (s : State) : Result := complete 2 (setOp 3 .A) s
def exec_set_4_B (s : State) : Result := complete 2 (setOp 4 .B) s
def exec_set_4_C (s : State) : Result := complete 2 (setOp 4 .C) s
def exec_set_4_D (s : State) : Result := complete 2 (setOp 4 .D) s
def exec_set_4_E (s : State) : Result := complete 2 (setOp 4 .E) s
def exec_set_4_H (s : State) : Result := complete 2 (setOp 4 .H) s
def exec_set_4_L (s : State) : Result := complete 2 (setOp 4 .L) s
def exec_set_4_mHL (s : State) : Result := complete 2 (setOp 4 .mHL) s
def exec_set_4_A (s : State) : Result := complete 2 (setOp 4 .A) s
def exec_set_5_B (s : State) : Result := complete 2 (setOp 5 .B) s
def exec_set_5_C (s : State) : Result := complete 2 (setOp 5 .C) s
def exec_set_5_D (s : State) : Result := complete 2 (setOp 5 .D) s
def exec_set_5_E (s : State) : Result := complete 2 (setOp 5 .E) s
def exec_set_5_H (s : State) : Result := complete 2 (setOp 5 .H) s
def exec_set_5_L (s : State) : Result := complete 2 (setOp 5 .L) s
def exec_set_5_mHL (s : State) : Result := complete 2 (setOp 5 .mHL) s
def exec_set_5_A (s : State) : Result := complete 2 (setOp 5 .A) s
def exec_set_6_B (s : State) : Result := complete 2 (setOp 6 .B) s
def exec_set_6_C (s : State) : Result := complete 2 (setOp 6 .C) s
def exec_set_6_D (s : State) : Result := complete 2 (setOp 6 .D) s
def exec_set_6_E (s : State) : Result := complete 2 (setOp 6 .E) s
def exec_set_6_H (s : State) : Result := complete 2 (setOp 6 .H) s
def exec_set_6_L (s : State) : Result := complete 2 (setOp 6 .L) s
def exec_set_6_mHL (s : State) : Result := complete 2 (setOp 6 .mHL) s
def exec_set_6_A (s : State) : Result := complete 2 (setOp 6 .A) s
def exec_set_7_B (s : State) : Result := complete 2 (setOp 7 .B) s
def exec_set_7_C (s : State) : Result := complete 2 (setOp 7 .C) s
def exec_set_7_D (s : State) : Result := complete 2 (setOp 7 .D) s
def exec_set_7_E (s : State) : Result := complete 2 (setOp 7 .E) s
def exec_set_7_H (s : State) : Result := complete 2 (setOp 7 .H) s
def exec_set_7_L (s : State) : Result := complete 2 (setOp 7 .L) s
def exec_set_7_mHL (s : State) : Result := complete 2 (setOp 7 .mHL) s
def exec_set_7_A (s : State) : Result := complete 2 (setOp 7 .A) s

end Sys2Proof.Machine
end

