-- ==== Sys2Proof/Machine/Control.lean ====
section
/-! DEFINITION. Control transfer (spec/45_control_flow.md R290 to R301). `PC` in each operation addresses the next instruction in sequence. No flag changes. -/

namespace Sys2Proof.Machine

/-! ## The shared operations -/

/-- R291, R293: `PC <- target`. -/
def jump (target : Word) (s : State) : State := { s with pc := target }

/-- R294: `PC <- PC + sext_16(e)`. -/
def jumpRel (e : Byte) (s : State) : State := { s with pc := s.pc + sext16 e }

/-- R290: run the operation if the condition holds. -/
def when (cc : Cond) (operation : State → State) (s : State) : State := if s.cond cc then operation s else s

/-- R296, R301: push the return address and jump. -/
def call (target : Word) (s : State) : State := s.callTo target

/-- R298: `PC <- Pop16()`. -/
def ret (s : State) : State := s.returnFromCall

/-! ## R291 to R295: jumps -/

def exec_jp_nn (nn : Word) (s : State) : Result := complete 3 (jump nn) s
def exec_jp_NZ_nn (nn : Word) (s : State) : Result := complete 3 (when .NZ (jump nn)) s
def exec_jp_Z_nn (nn : Word) (s : State) : Result := complete 3 (when .Z (jump nn)) s
def exec_jp_NC_nn (nn : Word) (s : State) : Result := complete 3 (when .NC (jump nn)) s
def exec_jp_C_nn (nn : Word) (s : State) : Result := complete 3 (when .C (jump nn)) s
def exec_jp_HL (s : State) : Result := complete 1 (fun t => jump t.hl t) s
def exec_jr_e (e : Byte) (s : State) : Result := complete 2 (jumpRel e) s
def exec_jr_NZ_e (e : Byte) (s : State) : Result := complete 2 (when .NZ (jumpRel e)) s
def exec_jr_Z_e (e : Byte) (s : State) : Result := complete 2 (when .Z (jumpRel e)) s
def exec_jr_NC_e (e : Byte) (s : State) : Result := complete 2 (when .NC (jumpRel e)) s
def exec_jr_C_e (e : Byte) (s : State) : Result := complete 2 (when .C (jumpRel e)) s

/-! ## R296 to R301: calls, returns, restarts -/

def exec_call_nn (nn : Word) (s : State) : Result := complete 3 (call nn) s
def exec_call_NZ_nn (nn : Word) (s : State) : Result := complete 3 (when .NZ (call nn)) s
def exec_call_Z_nn (nn : Word) (s : State) : Result := complete 3 (when .Z (call nn)) s
def exec_call_NC_nn (nn : Word) (s : State) : Result := complete 3 (when .NC (call nn)) s
def exec_call_C_nn (nn : Word) (s : State) : Result := complete 3 (when .C (call nn)) s
def exec_ret (s : State) : Result := complete 1 ret s
def exec_ret_NZ (s : State) : Result := complete 1 (when .NZ ret) s
def exec_ret_Z (s : State) : Result := complete 1 (when .Z ret) s
def exec_ret_NC (s : State) : Result := complete 1 (when .NC ret) s
def exec_ret_C (s : State) : Result := complete 1 (when .C ret) s
def exec_reti (s : State) : Result := complete 1 State.returnFromInterrupt s
def exec_rst_00 (s : State) : Result := complete 1 (call 0x0000) s
def exec_rst_08 (s : State) : Result := complete 1 (call 0x0008) s
def exec_rst_10 (s : State) : Result := complete 1 (call 0x0010) s
def exec_rst_18 (s : State) : Result := complete 1 (call 0x0018) s
def exec_rst_20 (s : State) : Result := complete 1 (call 0x0020) s
def exec_rst_28 (s : State) : Result := complete 1 (call 0x0028) s
def exec_rst_30 (s : State) : Result := complete 1 (call 0x0030) s
def exec_rst_38 (s : State) : Result := complete 1 (call 0x0038) s

end Sys2Proof.Machine
end

