-- ==== Sys2Proof/Machine/Load16.lean ====
section
/-! DEFINITION. The 16-bit loads and the stack instructions (spec/41_load16_stack.md R170 to R175). Only `POP AF` changes flags. -/

namespace Sys2Proof.Machine

/-! ## The shared operations -/

/-- R170: `r16[p] <- nn`. -/
def ldPair (p : R16) (nn : Word) (s : State) : State := s.setR16 p nn

/-- R171: `SP` to memory, the low byte first. -/
def storeSP (nn : Word) (s : State) : State := s.write16 nn s.sp

/-- R172: `SP <- HL`. -/
def ldSPHL (s : State) : State := { s with sp := s.hl }

/-- R173: `Push16(r16stk[p])`. -/
def push (p : R16Stk) (s : State) : State := s.push16 (s.getStk p)

/-- R174, R175: `r16stk[p] <- Pop16()`; into `AF` bits 3:0 of the low byte are dropped. -/
def pop (p : R16Stk) (s : State) : State := s.pop16.2.setStk p s.pop16.1

/-! ## R170: `LD rr,nn` -/

def exec_ld_BC_nn (nn : Word) (s : State) : Result := complete 3 (ldPair .BC nn) s
def exec_ld_DE_nn (nn : Word) (s : State) : Result := complete 3 (ldPair .DE nn) s
def exec_ld_HL_nn (nn : Word) (s : State) : Result := complete 3 (ldPair .HL nn) s
def exec_ld_SP_nn (nn : Word) (s : State) : Result := complete 3 (ldPair .SP nn) s

/-! ## R171, R172 -/

def exec_ld_mnn_SP (nn : Word) (s : State) : Result := complete 3 (storeSP nn) s
def exec_ld_SP_HL (s : State) : Result := complete 1 ldSPHL s

/-! ## R173: `PUSH rr` -/

def exec_push_BC (s : State) : Result := complete 1 (push .BC) s
def exec_push_DE (s : State) : Result := complete 1 (push .DE) s
def exec_push_HL (s : State) : Result := complete 1 (push .HL) s
def exec_push_AF (s : State) : Result := complete 1 (push .AF) s

/-! ## R174, R175: `POP rr` -/

def exec_pop_BC (s : State) : Result := complete 1 (pop .BC) s
def exec_pop_DE (s : State) : Result := complete 1 (pop .DE) s
def exec_pop_HL (s : State) : Result := complete 1 (pop .HL) s
def exec_pop_AF (s : State) : Result := complete 1 (pop .AF) s

end Sys2Proof.Machine
end

