-- ==== Sys2Proof/Machine/Load8.lean ====
section
/-! DEFINITION. The 8-bit loads and stores (spec/40_load8.md R140 to R158). No load changes a flag, `IME`, `mode` or `SP`. -/

namespace Sys2Proof.Machine

/-! ## The shared operations -/

/-- R140 to R142: `r8[d] <- r8[s]`. -/
def ldR8 (d r : R8) (s : State) : State := s.setR8 d (s.getR8 r)

/-- R143, R144: `r8[d] <- n`. -/
def ldImm (d : R8) (n : Byte) (s : State) : State := s.setR8 d n

/-- R149, R151, R153: `A <- MemRead(addr, 1)`. -/
def loadA (addr : Word) (s : State) : State := { s with a := s.read addr }

/-- R150, R152, R154: `MemWrite(addr, 1, A)`. -/
def storeA (addr : Word) (s : State) : State := s.write addr s.a

/-- R145, R146, R155, R156: `A <- MemRead` through `r16mem[p]`, then its step of `HL`. -/
def loadMem (p : R16Mem) (s : State) : State := (loadA (s.memAddr p) s).memStep p

/-- R147, R148, R157, R158: `MemWrite` of `A` through `r16mem[p]`, then its step of `HL`. -/
def storeMem (p : R16Mem) (s : State) : State := (storeA (s.memAddr p) s).memStep p

/-! ## R140: `LD r,r'` -/

def exec_ld_B_B (s : State) : Result := complete 1 (ldR8 .B .B) s
def exec_ld_B_C (s : State) : Result := complete 1 (ldR8 .B .C) s
def exec_ld_B_D (s : State) : Result := complete 1 (ldR8 .B .D) s
def exec_ld_B_E (s : State) : Result := complete 1 (ldR8 .B .E) s
def exec_ld_B_H (s : State) : Result := complete 1 (ldR8 .B .H) s
def exec_ld_B_L (s : State) : Result := complete 1 (ldR8 .B .L) s
def exec_ld_B_A (s : State) : Result := complete 1 (ldR8 .B .A) s
def exec_ld_C_B (s : State) : Result := complete 1 (ldR8 .C .B) s
def exec_ld_C_C (s : State) : Result := complete 1 (ldR8 .C .C) s
def exec_ld_C_D (s : State) : Result := complete 1 (ldR8 .C .D) s
def exec_ld_C_E (s : State) : Result := complete 1 (ldR8 .C .E) s
def exec_ld_C_H (s : State) : Result := complete 1 (ldR8 .C .H) s
def exec_ld_C_L (s : State) : Result := complete 1 (ldR8 .C .L) s
def exec_ld_C_A (s : State) : Result := complete 1 (ldR8 .C .A) s
def exec_ld_D_B (s : State) : Result := complete 1 (ldR8 .D .B) s
def exec_ld_D_C (s : State) : Result := complete 1 (ldR8 .D .C) s
def exec_ld_D_D (s : State) : Result := complete 1 (ldR8 .D .D) s
def exec_ld_D_E (s : State) : Result := complete 1 (ldR8 .D .E) s
def exec_ld_D_H (s : State) : Result := complete 1 (ldR8 .D .H) s
def exec_ld_D_L (s : State) : Result := complete 1 (ldR8 .D .L) s
def exec_ld_D_A (s : State) : Result := complete 1 (ldR8 .D .A) s
def exec_ld_E_B (s : State) : Result := complete 1 (ldR8 .E .B) s
def exec_ld_E_C (s : State) : Result := complete 1 (ldR8 .E .C) s
def exec_ld_E_D (s : State) : Result := complete 1 (ldR8 .E .D) s
def exec_ld_E_E (s : State) : Result := complete 1 (ldR8 .E .E) s
def exec_ld_E_H (s : State) : Result := complete 1 (ldR8 .E .H) s
def exec_ld_E_L (s : State) : Result := complete 1 (ldR8 .E .L) s
def exec_ld_E_A (s : State) : Result := complete 1 (ldR8 .E .A) s
def exec_ld_H_B (s : State) : Result := complete 1 (ldR8 .H .B) s
def exec_ld_H_C (s : State) : Result := complete 1 (ldR8 .H .C) s
def exec_ld_H_D (s : State) : Result := complete 1 (ldR8 .H .D) s
def exec_ld_H_E (s : State) : Result := complete 1 (ldR8 .H .E) s
def exec_ld_H_H (s : State) : Result := complete 1 (ldR8 .H .H) s
def exec_ld_H_L (s : State) : Result := complete 1 (ldR8 .H .L) s
def exec_ld_H_A (s : State) : Result := complete 1 (ldR8 .H .A) s
def exec_ld_L_B (s : State) : Result := complete 1 (ldR8 .L .B) s
def exec_ld_L_C (s : State) : Result := complete 1 (ldR8 .L .C) s
def exec_ld_L_D (s : State) : Result := complete 1 (ldR8 .L .D) s
def exec_ld_L_E (s : State) : Result := complete 1 (ldR8 .L .E) s
def exec_ld_L_H (s : State) : Result := complete 1 (ldR8 .L .H) s
def exec_ld_L_L (s : State) : Result := complete 1 (ldR8 .L .L) s
def exec_ld_L_A (s : State) : Result := complete 1 (ldR8 .L .A) s
def exec_ld_A_B (s : State) : Result := complete 1 (ldR8 .A .B) s
def exec_ld_A_C (s : State) : Result := complete 1 (ldR8 .A .C) s
def exec_ld_A_D (s : State) : Result := complete 1 (ldR8 .A .D) s
def exec_ld_A_E (s : State) : Result := complete 1 (ldR8 .A .E) s
def exec_ld_A_H (s : State) : Result := complete 1 (ldR8 .A .H) s
def exec_ld_A_L (s : State) : Result := complete 1 (ldR8 .A .L) s
def exec_ld_A_A (s : State) : Result := complete 1 (ldR8 .A .A) s

/-! ## R141: `LD r,(HL)` -/

def exec_ld_B_mHL (s : State) : Result := complete 1 (ldR8 .B .mHL) s
def exec_ld_C_mHL (s : State) : Result := complete 1 (ldR8 .C .mHL) s
def exec_ld_D_mHL (s : State) : Result := complete 1 (ldR8 .D .mHL) s
def exec_ld_E_mHL (s : State) : Result := complete 1 (ldR8 .E .mHL) s
def exec_ld_H_mHL (s : State) : Result := complete 1 (ldR8 .H .mHL) s
def exec_ld_L_mHL (s : State) : Result := complete 1 (ldR8 .L .mHL) s
def exec_ld_A_mHL (s : State) : Result := complete 1 (ldR8 .A .mHL) s

/-! ## R142: `LD (HL),r` -/

def exec_ld_mHL_B (s : State) : Result := complete 1 (ldR8 .mHL .B) s
def exec_ld_mHL_C (s : State) : Result := complete 1 (ldR8 .mHL .C) s
def exec_ld_mHL_D (s : State) : Result := complete 1 (ldR8 .mHL .D) s
def exec_ld_mHL_E (s : State) : Result := complete 1 (ldR8 .mHL .E) s
def exec_ld_mHL_H (s : State) : Result := complete 1 (ldR8 .mHL .H) s
def exec_ld_mHL_L (s : State) : Result := complete 1 (ldR8 .mHL .L) s
def exec_ld_mHL_A (s : State) : Result := complete 1 (ldR8 .mHL .A) s

/-! ## R143, R144: `LD r,n` and `LD (HL),n` -/

def exec_ld_B_n (n : Byte) (s : State) : Result := complete 2 (ldImm .B n) s
def exec_ld_C_n (n : Byte) (s : State) : Result := complete 2 (ldImm .C n) s
def exec_ld_D_n (n : Byte) (s : State) : Result := complete 2 (ldImm .D n) s
def exec_ld_E_n (n : Byte) (s : State) : Result := complete 2 (ldImm .E n) s
def exec_ld_H_n (n : Byte) (s : State) : Result := complete 2 (ldImm .H n) s
def exec_ld_L_n (n : Byte) (s : State) : Result := complete 2 (ldImm .L n) s
def exec_ld_mHL_n (n : Byte) (s : State) : Result := complete 2 (ldImm .mHL n) s
def exec_ld_A_n (n : Byte) (s : State) : Result := complete 2 (ldImm .A n) s

/-! ## R145, R146, R155, R156: `LD A,(rr)` -/

def exec_ld_A_mBC (s : State) : Result := complete 1 (loadMem .BC) s
def exec_ld_A_mDE (s : State) : Result := complete 1 (loadMem .DE) s
def exec_ld_A_mHLi (s : State) : Result := complete 1 (loadMem .HLi) s
def exec_ld_A_mHLd (s : State) : Result := complete 1 (loadMem .HLd) s

/-! ## R147, R148, R157, R158: `LD (rr),A` -/

def exec_ld_mBC_A (s : State) : Result := complete 1 (storeMem .BC) s
def exec_ld_mDE_A (s : State) : Result := complete 1 (storeMem .DE) s
def exec_ld_mHLi_A (s : State) : Result := complete 1 (storeMem .HLi) s
def exec_ld_mHLd_A (s : State) : Result := complete 1 (storeMem .HLd) s

/-! ## R149, R150: absolute address -/

def exec_ld_A_mnn (nn : Word) (s : State) : Result := complete 3 (loadA nn) s
def exec_ld_mnn_A (nn : Word) (s : State) : Result := complete 3 (storeA nn) s

/-! ## R151 to R154: the high page -/

def exec_ldh_A_mC (s : State) : Result := complete 1 (fun t => loadA (highPage t.c) t) s
def exec_ldh_mC_A (s : State) : Result := complete 1 (fun t => storeA (highPage t.c) t) s
def exec_ldh_A_mn (n : Byte) (s : State) : Result := complete 2 (loadA (highPage n)) s
def exec_ldh_mn_A (n : Byte) (s : State) : Result := complete 2 (storeA (highPage n)) s

end Sys2Proof.Machine
end

