-- ==== Sys2Proof/Machine/Rotate.lean ====
section
/-! DEFINITION. Rotates and shifts (spec/44_rotate_shift_bit.md R250 to R262): the four accumulator rotates, and the `CB`-prefixed ones on `r8`. -/

namespace Sys2Proof.Machine

/-! ## The shared operations -/

/-- R255 to R262: the value written back, from the operand and the carry flag. -/
def rotValue (op : RotOp) (v : Byte) (cin : Bool) : Byte :=
  match op with
  | .rlc => (v <<< 1) ||| (v >>> 7)
  | .rrc => (v >>> 1) ||| (v <<< 7)
  | .rl => (v <<< 1) ||| (if cin then 0x01 else 0)
  | .rr => (v >>> 1) ||| (if cin then 0x80 else 0)
  | .sla => v <<< 1
  | .sra => (v >>> 1) ||| (v &&& 0x80)
  | .swap => (v <<< 4) ||| (v >>> 4)
  | .srl => v >>> 1

/-- R255 to R262: the carry out: bit 7 of a left rotate or shift, bit 0 of a right one, 0 for `SWAP`. -/
def rotCarry (op : RotOp) (v : Byte) : Bool :=
  match op with
  | .rlc => v.getLsbD 7
  | .rrc => v.getLsbD 0
  | .rl => v.getLsbD 7
  | .rr => v.getLsbD 0
  | .sla => v.getLsbD 7
  | .sra => v.getLsbD 0
  | .swap => false
  | .srl => v.getLsbD 0

/-- R254 to R262: read `r8[o]`, compute, write back; `Z` from the result. -/
def rotOp (op : RotOp) (o : R8) (s : State) : State :=
  let v := s.getR8 o
  let r := rotValue op v s.cf
  (s.setR8 o r).setFlags (r == 0) false false (rotCarry op v)

/-- R250 to R253: the one-byte rotates of `A`; `Z` is cleared whatever the result. -/
def rotA (op : RotOp) (s : State) : State :=
  { s with a := rotValue op s.a s.cf }.setFlags false false false (rotCarry op s.a)

/-! ## R250 to R253 -/

def exec_rlca (s : State) : Result := complete 1 (rotA .rlc) s
def exec_rrca (s : State) : Result := complete 1 (rotA .rrc) s
def exec_rla (s : State) : Result := complete 1 (rotA .rl) s
def exec_rra (s : State) : Result := complete 1 (rotA .rr) s

/-! ## R255: `RLC` -/

def exec_rlc_B (s : State) : Result := complete 2 (rotOp .rlc .B) s
def exec_rlc_C (s : State) : Result := complete 2 (rotOp .rlc .C) s
def exec_rlc_D (s : State) : Result := complete 2 (rotOp .rlc .D) s
def exec_rlc_E (s : State) : Result := complete 2 (rotOp .rlc .E) s
def exec_rlc_H (s : State) : Result := complete 2 (rotOp .rlc .H) s
def exec_rlc_L (s : State) : Result := complete 2 (rotOp .rlc .L) s
def exec_rlc_mHL (s : State) : Result := complete 2 (rotOp .rlc .mHL) s
def exec_rlc_A (s : State) : Result := complete 2 (rotOp .rlc .A) s

/-! ## R256: `RRC` -/

def exec_rrc_B (s : State) : Result := complete 2 (rotOp .rrc .B) s
def exec_rrc_C (s : State) : Result := complete 2 (rotOp .rrc .C) s
def exec_rrc_D (s : State) : Result := complete 2 (rotOp .rrc .D) s
def exec_rrc_E (s : State) : Result := complete 2 (rotOp .rrc .E) s
def exec_rrc_H (s : State) : Result := complete 2 (rotOp .rrc .H) s
def exec_rrc_L (s : State) : Result := complete 2 (rotOp .rrc .L) s
def exec_rrc_mHL (s : State) : Result := complete 2 (rotOp .rrc .mHL) s
def exec_rrc_A (s : State) : Result := complete 2 (rotOp .rrc .A) s

/-! ## R257: `RL` -/

def exec_rl_B (s : State) : Result := complete 2 (rotOp .rl .B) s
def exec_rl_C (s : State) : Result := complete 2 (rotOp .rl .C) s
def exec_rl_D (s : State) : Result := complete 2 (rotOp .rl .D) s
def exec_rl_E (s : State) : Result := complete 2 (rotOp .rl .E) s
def exec_rl_H (s : State) : Result := complete 2 (rotOp .rl .H) s
def exec_rl_L (s : State) : Result := complete 2 (rotOp .rl .L) s
def exec_rl_mHL (s : State) : Result := complete 2 (rotOp .rl .mHL) s
def exec_rl_A (s : State) : Result := complete 2 (rotOp .rl .A) s

/-! ## R258: `RR` -/

def exec_rr_B (s : State) : Result := complete 2 (rotOp .rr .B) s
def exec_rr_C (s : State) : Result := complete 2 (rotOp .rr .C) s
def exec_rr_D (s : State) : Result := complete 2 (rotOp .rr .D) s
def exec_rr_E (s : State) : Result := complete 2 (rotOp .rr .E) s
def exec_rr_H (s : State) : Result := complete 2 (rotOp .rr .H) s
def exec_rr_L (s : State) : Result := complete 2 (rotOp .rr .L) s
def exec_rr_mHL (s : State) : Result := complete 2 (rotOp .rr .mHL) s
def exec_rr_A (s : State) : Result := complete 2 (rotOp .rr .A) s

/-! ## R259: `SLA` -/

def exec_sla_B (s : State) : Result := complete 2 (rotOp .sla .B) s
def exec_sla_C (s : State) : Result := complete 2 (rotOp .sla .C) s
def exec_sla_D (s : State) : Result := complete 2 (rotOp .sla .D) s
def exec_sla_E (s : State) : Result := complete 2 (rotOp .sla .E) s
def exec_sla_H (s : State) : Result := complete 2 (rotOp .sla .H) s
def exec_sla_L (s : State) : Result := complete 2 (rotOp .sla .L) s
def exec_sla_mHL (s : State) : Result := complete 2 (rotOp .sla .mHL) s
def exec_sla_A (s : State) : Result := complete 2 (rotOp .sla .A) s

/-! ## R260: `SRA` -/

def exec_sra_B (s : State) : Result := complete 2 (rotOp .sra .B) s
def exec_sra_C (s : State) : Result := complete 2 (rotOp .sra .C) s
def exec_sra_D (s : State) : Result := complete 2 (rotOp .sra .D) s
def exec_sra_E (s : State) : Result := complete 2 (rotOp .sra .E) s
def exec_sra_H (s : State) : Result := complete 2 (rotOp .sra .H) s
def exec_sra_L (s : State) : Result := complete 2 (rotOp .sra .L) s
def exec_sra_mHL (s : State) : Result := complete 2 (rotOp .sra .mHL) s
def exec_sra_A (s : State) : Result := complete 2 (rotOp .sra .A) s

/-! ## R261: `SWAP` -/

def exec_swap_B (s : State) : Result := complete 2 (rotOp .swap .B) s
def exec_swap_C (s : State) : Result := complete 2 (rotOp .swap .C) s
def exec_swap_D (s : State) : Result := complete 2 (rotOp .swap .D) s
def exec_swap_E (s : State) : Result := complete 2 (rotOp .swap .E) s
def exec_swap_H (s : State) : Result := complete 2 (rotOp .swap .H) s
def exec_swap_L (s : State) : Result := complete 2 (rotOp .swap .L) s
def exec_swap_mHL (s : State) : Result := complete 2 (rotOp .swap .mHL) s
def exec_swap_A (s : State) : Result := complete 2 (rotOp .swap .A) s

/-! ## R262: `SRL` -/

def exec_srl_B (s : State) : Result := complete 2 (rotOp .srl .B) s
def exec_srl_C (s : State) : Result := complete 2 (rotOp .srl .C) s
def exec_srl_D (s : State) : Result := complete 2 (rotOp .srl .D) s
def exec_srl_E (s : State) : Result := complete 2 (rotOp .srl .E) s
def exec_srl_H (s : State) : Result := complete 2 (rotOp .srl .H) s
def exec_srl_L (s : State) : Result := complete 2 (rotOp .srl .L) s
def exec_srl_mHL (s : State) : Result := complete 2 (rotOp .srl .mHL) s
def exec_srl_A (s : State) : Result := complete 2 (rotOp .srl .A) s

end Sys2Proof.Machine
end

