-- ==== Sys2Proof/Machine/System.lean ====
section
/-! DEFINITION. The system instructions (spec/46_system.md R320 to R324), the illegal bytes (R326) and the prefix row (spec/30_encoding.md R118). -/

namespace Sys2Proof.Machine

/-! ## The shared operations -/

/-- R320: nothing; the fetch has already advanced `PC`. -/
def nopOp (s : State) : State := s

/-- R321. Case A: nothing pending, halt. Case B: pending and `IME = 0`, arm the halt bug. Case C: pending and `IME = 1`,
nothing. -/
def haltOp (s : State) : State :=
  if s.pending = 0 then { s with mode := .halted }
  else if s.ime then s
  else { s with haltBug := true }

/-- R322: unconditional; the pad byte has been fetched and is ignored. -/
def stopOp (s : State) : State := { s with mode := .stopped }

/-- R323. -/
def diOp (s : State) : State := { s with ime := false, imePending := false }

/-- R324: `IME` itself is not changed by the `EI`. -/
def eiOp (s : State) : State := { s with imePending := true }

/-- R326, R410: `raise IllegalOpcode(op)`; the byte stands at `PC`. -/
def illegal (op : Byte) (s : State) : Result := .fault (.illegalOpcode op s.pc)

/-- R115, R254: the operation the byte after `0xCB` selects, by its fields. -/
def cbOperation (op2 : Byte) (s : State) : State :=
  let o := R8.ofIndex (fieldZ op2)
  match fieldX op2 with
  | 0 => rotOp (RotOp.ofIndex (fieldY op2)) o s
  | 1 => bitOp (fieldY op2) o s
  | 2 => resOp (fieldY op2) o s
  | _ => setOp (fieldY op2) o s

/-! ## R320 to R324 -/

def exec_nop (s : State) : Result := complete 1 nopOp s
def exec_halt (s : State) : Result := complete 1 haltOp s
def exec_stop (_pad : Byte) (s : State) : Result := complete 2 stopOp s
def exec_di (s : State) : Result := complete 1 diOp s
def exec_ei (s : State) : Result := complete 1 eiOp s

/-! ## R326: the eleven illegal bytes -/

def exec_illegal_D3 (s : State) : Result := illegal 0xD3 s
def exec_illegal_DB (s : State) : Result := illegal 0xDB s
def exec_illegal_DD (s : State) : Result := illegal 0xDD s
def exec_illegal_E3 (s : State) : Result := illegal 0xE3 s
def exec_illegal_E4 (s : State) : Result := illegal 0xE4 s
def exec_illegal_EB (s : State) : Result := illegal 0xEB s
def exec_illegal_EC (s : State) : Result := illegal 0xEC s
def exec_illegal_ED (s : State) : Result := illegal 0xED s
def exec_illegal_F4 (s : State) : Result := illegal 0xF4 s
def exec_illegal_FC (s : State) : Result := illegal 0xFC s
def exec_illegal_FD (s : State) : Result := illegal 0xFD s

/-! ## R118: the prefix byte and the byte after it, as one instruction -/

def exec_prefix_CB (op2 : Byte) (s : State) : Result := complete 2 (cbOperation op2) s

end Sys2Proof.Machine
end

