-- ==== Sys2Proof/Machine/Phases.lean ====
section
/-! DEFINITION. The phases of a step (spec/60_exceptions.md R400 to R406) over `exec`, with the M-cycles the step returns, and
the storing of a test word where the next step fetches. -/

namespace Sys2Proof.Machine

/-- A host with no peripherals passes zeros (R376, R400). -/
def StepInput.none : StepInput := { irq := 0, wake := false }

/-- Phase 0: `IF <- IF | irq_in`. -/
def State.latch (irq : BitVec 5) (s : State) : State := { s with iflag := s.iflag ||| irq }

/-- Phases 1 and 2 (R401, R402): the state in which the step goes on, `Running`; `none` if the step is an idle one. -/
def State.wakeUp (wake : Bool) (s : State) : Option State :=
  match s.mode with
  | .running => some s
  | .stopped => if wake then some { s with mode := .running } else none
  | .halted => if s.pending ≠ 0 then some { s with mode := .running } else none

/-- Phase 3: an interrupt is dispatched. -/
def State.dispatchDue (s : State) : Bool := s.ime && decide (s.pending ≠ 0)

/-- Phase 3. -/
def State.interruptPhase (s : State) : State := if s.dispatchDue then s.dispatch else s

/-- Phase 4, first part (R405): a pending `EI` takes effect. -/
def State.commitEI (s : State) : State := if s.imePending then { s with ime := true, imePending := false } else s

/-- The state in which a step that goes on executes its instruction. -/
def State.ready (s : State) : State := s.interruptPhase.commitEI

/-- R103: the instruction whose bytes `Fetch8` reads from `PC` on. Reading ahead of its length changes nothing (R60). -/
def State.nextInstr (s : State) : Instr :=
  let bs := (s.fetchBytes 3).1
  decodeBytes (bs.getD 0 0) (bs.getD 1 0) (bs.getD 2 0)

/-- R400: one step with the host's inputs; the next state and the M-cycles it took (R406), or the fault. -/
def stepWith (inp : StepInput) (s : State) : Host.Outcome (State × Nat) Fault Refusal :=
  let s0 := s.latch inp.irq
  match s0.wakeUp inp.wake with
  | none => .next (s0, 1)
  | some s1 =>
    let s2 := s1.ready
    let i := s2.nextInstr
    match exec i s2 with
    | .next t => .next (t, (if s1.dispatchDue then Config.dispatchCycles else 0) + cycles i s2)
    | .fault r => .fault r
    | .refused r => .refused r

/-- The step the queue of host inputs gives: the oldest input is taken off it; an empty queue stands for zeros. -/
def stepTimed (s : State) : Host.Outcome (State × Nat) Fault Refusal :=
  stepWith (s.inputs.headD .none) { s with inputs := s.inputs.tail }

/-- The same without the cycle count. -/
def stepState (s : State) : Host.Outcome State Fault Refusal :=
  match stepTimed s with
  | .next (t, _) => .next t
  | .fault r => .fault r
  | .refused r => .refused r

/-! ## A word placed where the next step fetches -/

/-- Store a byte in the storage behind an address, ROM included (the image given at construction, R370); nothing at an
unmapped address. -/
def State.place (s : State) (addr : Word) (v : Byte) : State :=
  match s.owner addr with
  | .cell r i => { s with mem := s.mem.put r i v }
  | .ifReg => { s with iflag := v.setWidth 5 }
  | .bootReg => { s with mem := s.mem.put .io 0x50 v }
  | .ieReg => { s with ie := v }
  | .unmapped => s

/-- Every byte value can stand at the address. -/
def State.placeable (s : State) (addr : Word) : Bool :=
  match s.owner addr with
  | .cell _ _ => true
  | .ifReg => false
  | .bootReg => true
  | .ieReg => true
  | .unmapped => false

/-- Where the placed bytes go: at `PC`, or at 0xC000 if `PC` lies where not every byte can stand. -/
def State.placeAddr (s : State) : Word :=
  if s.placeable s.pc && s.placeable (s.pc + 1) && s.placeable (s.pc + 2) then s.pc else 0xC000

/-- Three bytes placed where the next step fetches, and the step made one that fetches them: `Running`, no halt bug, and no
interrupt dispatched first. -/
def State.placeBytes (s : State) (b0 b1 b2 : Byte) : State :=
  let a := s.placeAddr
  let t := { s with pc := a, mode := .running, haltBug := false }
  let u := ((t.place a b0).place (a + 1) b1).place (a + 2) b2
  { u with ime := u.ime && !(u.latch (u.inputs.headD .none).irq).dispatchDue }

end Sys2Proof.Machine
end

