-- ==== Sys2Proof/Machine/Step.lean ====
section
/-! DEFINITION. The step of the machine, and the placing of an instruction word where it fetches next. -/

namespace Sys2Proof.Machine

/-- One step (R400), with the oldest input of the queue; its cycle count is `stepTimed`'s (R406). -/
def step (s : State) : Host.Outcome State Fault Refusal := stepState s

/-- The state with the instruction whose bits are `w` (numbered as spec/opcode_table.json numbers them, the bits above `nbits`
zero) stored where `step` fetches its next instruction. On `State.reset` it only writes the three bytes at the entry point
into the ROM image, which is how a program comes to run there (log 15). -/
def State.withFetchWord (s : State) (nbits w : Nat) : State :=
  let v := w % 2 ^ nbits
  s.placeBytes (byteOfNat v 0) (byteOfNat v 1) (byteOfNat v 2)

end Sys2Proof.Machine
end

