-- ==== Sys2Proof/Machine/Snapshot.lean ====
section
/-! DEFINITION. The state snapshot codec (spec/47_snapshot_codec.md R340 to R352). -/

namespace Sys2Proof.Machine

/-- R343: the mode field. -/
def Mode.code : Mode → Nat
  | .running => 0
  | .halted => 1
  | .stopped => 2

/-- R343, R346: the mode of a field value; 3 is invalid (R347 check 3). -/
def Mode.ofCode (n : Nat) : Mode :=
  match n with
  | 0 => .running
  | 1 => .halted
  | _ => .stopped

/-- R343: the mode byte. -/
def State.modeByte (s : State) : Byte :=
  BitVec.ofNat 8 (s.mode.code + 4 * bit s.ime + 8 * bit s.imePending + 16 * bit s.haltBug + 32 * bit s.bootMapped)

/-- R31, R342: the `IF` byte as it reads. -/
def State.ifByte (s : State) : Byte := 0xE0 ||| s.iflag.setWidth 8

/-- The bytes of one array, in index order. -/
def Memory.bytes (m : Memory) (r : Region) : List Byte := Cells.bytes r.dflt r.size (m.bank r)

/-- R344: the memory image, built from the storage arrays, in address order. -/
def State.image (s : State) : List Byte :=
  s.mem.bytes .rom                                                       -- 0x0000-0x7FFF, whatever boot_mapped is
    ++ s.mem.bytes .vram                                                 -- 0x8000-0x9FFF
    ++ List.replicate 0x2000 Config.openBus                              -- 0xA000-0xBFFF
    ++ s.mem.bytes .wram                                                 -- 0xC000-0xDFFF
    ++ (s.mem.bytes .wram).take 0x1E00                                   -- 0xE000-0xFDFF
    ++ s.mem.bytes .oam                                                  -- 0xFE00-0xFE9F
    ++ List.replicate 0x60 Config.openBus                                -- 0xFEA0-0xFEFF
    ++ (s.mem.bytes .io).take 0x0F                                       -- 0xFF00-0xFF0E
    ++ [s.ifByte]                                                        -- 0xFF0F
    ++ (s.mem.bytes .io).drop 0x10                                       -- 0xFF10-0xFF7F
    ++ s.mem.bytes .hram                                                 -- 0xFF80-0xFFFE
    ++ [s.ie]                                                            -- 0xFFFF

/-- R342: the fifteen bytes before the image. -/
def State.header (s : State) : List Byte :=
  [s.a, s.b, s.c, s.d, s.e, s.h, s.l, lo s.sp, hi s.sp, lo s.pc, hi s.pc, s.f, s.ie, s.ifByte, s.modeByte]

/-- R345: `encode(s)`. The queue of host inputs is no part of it (R351). -/
def encodeSnapshot (s : State) : List Byte := s.header ++ s.image ++ s.mem.bytes .boot

/-- The `len` bytes from offset `off` on. -/
def slice (bs : List Byte) (off len : Nat) : List Byte := (bs.drop off).take len

/-- Why `decode` builds nothing. -/
inductive SnapshotError where
  /-- R347: the byte stream's length or structure does not match the layout -/
  | corruptSnapshot
  deriving DecidableEq, Repr

/-- R347: the stream passes all nine checks, in their order. -/
def snapshotOk (bs : List Byte) : Bool :=
  let img := slice bs 15 0x10000
  decide (bs.length = Config.snapshotSize)
    && ((bs.getD 11 0 &&& 0x0F) == 0)
    && ((bs.getD 14 0 &&& 0x03) != 3)
    && ((bs.getD 14 0 &&& 0xC0) == 0)
    && ((bs.getD 13 0 &&& 0xE0) == 0xE0)
    && (img.getD 0xFF0F 0 == bs.getD 13 0)
    && (img.getD 0xFFFF 0 == bs.getD 12 0)
    && (slice img 0xA000 0x2000 == List.replicate 0x2000 Config.openBus)
    && (slice img 0xFEA0 0x60 == List.replicate 0x60 Config.openBus)
    && (slice img 0xE000 0x1E00 == slice img 0xC000 0x1E00)

/-- R346: the byte arrays of an image and the bytes after it. -/
def memoryOfImage (img boot : List Byte) : Memory where
  rom := Cells.ofBytes (Region.dflt .rom) 0 (slice img 0 0x8000)
  boot := Cells.ofBytes (Region.dflt .boot) 0 boot
  vram := Cells.ofBytes (Region.dflt .vram) 0 (slice img 0x8000 0x2000)
  wram := Cells.ofBytes (Region.dflt .wram) 0 (slice img 0xC000 0x2000)
  oam := Cells.ofBytes (Region.dflt .oam) 0 (slice img 0xFE00 0xA0)
  io := Cells.ofBytes (Region.dflt .io) 0 (slice img 0xFF00 0x0F) ++ Cells.ofBytes (Region.dflt .io) 0x10 (slice img 0xFF10 0x70)
  hram := Cells.ofBytes (Region.dflt .hram) 0 (slice img 0xFF80 0x7F)

/-- R346: the state of an accepted stream; its queue of host inputs is empty (log 14). -/
def stateOfSnapshot (bs : List Byte) : State where
  a := bs.getD 0 0
  b := bs.getD 1 0
  c := bs.getD 2 0
  d := bs.getD 3 0
  e := bs.getD 4 0
  h := bs.getD 5 0
  l := bs.getD 6 0
  sp := join (bs.getD 8 0) (bs.getD 7 0)
  pc := join (bs.getD 10 0) (bs.getD 9 0)
  f := bs.getD 11 0
  ie := bs.getD 12 0
  iflag := (bs.getD 13 0).setWidth 5
  mode := Mode.ofCode ((bs.getD 14 0).toNat % 4)
  ime := (bs.getD 14 0).getLsbD 2
  imePending := (bs.getD 14 0).getLsbD 3
  haltBug := (bs.getD 14 0).getLsbD 4
  bootMapped := (bs.getD 14 0).getLsbD 5
  mem := memoryOfImage (slice bs 15 0x10000) (slice bs 65551 256)
  inputs := []

/-- R346: `decode(b)`. -/
def decodeSnapshot (bs : List Byte) : Except SnapshotError State :=
  if snapshotOk bs then .ok (stateOfSnapshot bs) else .error .corruptSnapshot

end Sys2Proof.Machine
end

