-- ==== Sys2Proof/Machine/Driver.lean ====
section
/-! DEFINITION. The host's calls (spec/48_host_interface.md): construction, the tick and its completion predicate. -/

namespace Sys2Proof.Machine

/-! ## Construction (R370 to R372, spec/10_state.md R38) -/

/-- The parameters of construction the spec leaves open, with the spec's defaults (spec/92_eei_decisions.md). -/
structure Params where
  /-- `RAM_INIT` -/
  ramInit : Byte := Config.ramInit
  /-- `ENFORCE_HEADER_CHECKSUM` -/
  enforceHeaderChecksum : Bool := false
  deriving DecidableEq, Repr

/-- Why construction builds no instance. -/
inductive ConstructError where
  /-- R372: the ROM image is too short for a header, or its header checksum is enforced and wrong -/
  | invalidRomFormat
  deriving DecidableEq, Repr

/-- R372: `hsum(r)`: from `x = 0`, `x <- (x - r[i] - 1) mod 256` for `i` in 0x134..0x14C. -/
def headerSum (image : List Byte) : Byte :=
  ((image.drop 0x134).take 0x19).foldl (fun x b => x - b - 1) 0

/-- R372: both checks pass. -/
def romAccepted (p : Params) (image : List Byte) : Bool :=
  decide (Config.minRomLen ≤ image.length)
    && (!p.enforceHeaderChecksum || headerSum image == image.getD 0x14D 0)

/-- R38: a RAM array every byte of which is `RAM_INIT`. -/
def filled (p : Params) (r : Region) : Cells := Cells.ofBytes r.dflt 0 (List.replicate r.size p.ramInit)

/-- R370, R38: the byte arrays. The images are cut to the arrays' sizes and padded with 0xFF; `io` has no index 0x0F. -/
def initialMemory (p : Params) (image : List Byte) (boot : Option (List Byte)) : Memory where
  rom := Cells.ofBytes (Region.dflt .rom) 0 (image.take (Region.size .rom))
  boot := Cells.ofBytes (Region.dflt .boot) 0 ((boot.getD []).take (Region.size .boot))
  vram := filled p .vram
  wram := filled p .wram
  oam := filled p .oam
  io := Cells.put (Region.dflt .io) (filled p .io) 0x0F (Region.dflt .io)
  hram := filled p .hram

/-- R38, left column: the registers and control state with a boot ROM. -/
def stateWithBoot (m : Memory) : State where
  a := 0
  f := 0
  b := 0
  c := 0
  d := 0
  e := 0
  h := 0
  l := 0
  sp := 0
  pc := Config.entryBoot
  ime := false
  imePending := false
  haltBug := false
  bootMapped := true
  mode := .running
  ie := 0
  iflag := 0
  mem := m
  inputs := []

/-- R38, right column: without a boot ROM (`State.reset` is this column over an empty memory). -/
def stateWithoutBoot (m : Memory) : State := { State.reset with mem := m }

/-- R370: `new(rom_image, boot_rom, enable_video, enable_audio)`. The two flags have no effect (R371). -/
def construct (p : Params) (image : List Byte) (boot : Option (List Byte)) (_enableVideo _enableAudio : Bool) :
    Except ConstructError State :=
  if romAccepted p image then
    match boot with
    | some _ => .ok (stateWithBoot (initialMemory p image boot))
    | none => .ok (stateWithoutBoot (initialMemory p image boot))
  else .error .invalidRomFormat

/-! ## Completion and the tick (R377, R379) -/

/-- R379: the default `COMPLETION`: the next instruction is `JR -2`, in `Running` mode. -/
def completionDefault (s : State) : Bool :=
  decide (s.mode = .running) && (s.read s.pc == 0x18) && (s.read (s.pc + 1) == 0xFE)

/-- R379: the designated result location holds the pass value; both parameters are open (log 9). -/
def resultPassed (s : State) : Bool := s.read Config.resultAddr == Config.passValue

/-- R377: steps until `Config.tickCycles` M-cycles have been returned; `fuel` bounds the number of steps (each returns at least
one cycle, so `Config.tickCycles` is enough). The state, the cycles summed and the steps made. -/
def runTick (fuel total steps : Nat) (s : State) : Host.Outcome (State × Nat × Nat) Fault Refusal :=
  match fuel with
  | 0 => .next (s, total, steps)
  | k + 1 =>
    if total < Config.tickCycles then
      match stepTimed s with
      | .next (t, n) => runTick k (total + n) (steps + 1) t
      | .fault r => .fault r
      | .refused r => .refused r
    else .next (s, total, steps)

/-- What a tick leaves: the state, the snapshot if a sink is present, and what the completion predicate says. -/
structure TickResult where
  state : State
  snapshot : Option (List Byte)
  completed : Bool
  deriving DecidableEq, Repr

/-- R377: `tick(snapshot_sink)`, with `COMPLETION` as an argument. The host's inputs are the queue's. -/
def tick (completion : State → Bool) (sink : Bool) (s : State) : Host.Outcome TickResult Fault Refusal :=
  match runTick Config.tickCycles 0 0 s with
  | .next (t, _, _) =>
    .next { state := t, snapshot := if sink then some (encodeSnapshot t) else none, completed := completion t }
  | .fault r => .fault r
  | .refused r => .refused r

end Sys2Proof.Machine
end

