-- ==== Sys2Proof/Machine/Session.lean ====
section
/-! DEFINITION. The host's calls on one instance over its life, and when each is allowed (spec/48_host_interface.md R376 to R384).
No part of the architectural state: whether the instance has faulted or been released is the host's (R351). -/

namespace Sys2Proof.Machine

/-- One instance as the host holds it. -/
structure Instance where
  state : State
  /-- a step has faulted; `state` is the one before that step (R410, spec/46_system.md R326) -/
  faulted : Bool
  /-- `stop()` has been called (R380) -/
  released : Bool
  deriving DecidableEq, Repr

/-- The instance `new` or `decode` creates (R370, R381). -/
def Instance.create (s : State) : Instance := { state := s, faulted := false, released := false }

/-- R382: the calls on an instance that exists. -/
inductive Call where
  /-- R376 -/
  | step (inp : StepInput)
  /-- R377; the inputs of its steps are the state's queue (log 12) -/
  | tick (sink : Bool)
  /-- R381 -/
  | encode
  /-- R378: `set_speed`, whatever the multiplier -/
  | setSpeed
  /-- R380: `stop()` -/
  | stop
  deriving DecidableEq, Repr

/-- What a call returns to the host. -/
inductive Answer where
  /-- `step`: the M-cycles it took (R406) -/
  | cycles (n : Nat)
  /-- `step` or `tick`: it faulted (R410) -/
  | fault (r : Fault)
  /-- `step` or `tick`: the model declined an instruction (no instruction of this model is declined) -/
  | refused (r : Refusal)
  /-- `tick`: the completion, and the snapshot a sink was given -/
  | ticked (completed : Bool) (snapshot : Option (List Byte))
  /-- `encode` -/
  | snapshot (bytes : List Byte)
  /-- `set_speed`, `stop` -/
  | done
  deriving DecidableEq, Repr

/-- R382, R383: the host may make the call. -/
def Instance.allows (inst : Instance) : Call → Bool
  | .step _ => !inst.faulted && !inst.released
  | .tick _ => !inst.faulted && !inst.released
  | .encode => !inst.released
  | .setSpeed => !inst.released
  | .stop => !inst.released

/-- The state a tick's steps reach: after the last one, or before the one that faults (R377, R326). -/
def tickState (fuel total : Nat) (s : State) : State :=
  match fuel with
  | 0 => s
  | k + 1 =>
    if total < Config.tickCycles then
      match stepTimed s with
      | .next (t, n) => tickState k (total + n) t
      | .fault _ => s
      | .refused _ => s
    else s

/-- An allowed call: its answer and the instance after it. -/
def Instance.perform (completion : State → Bool) (inst : Instance) : Call → Answer × Instance
  | .step inp =>
    match stepWith inp inst.state with
    | .next (t, n) => (.cycles n, { inst with state := t })
    | .fault r => (.fault r, { inst with faulted := true })
    | .refused r => (.refused r, { inst with faulted := true })
  | .tick sink =>
    match Machine.tick completion sink inst.state with
    | .next r => (.ticked r.completed r.snapshot, { inst with state := r.state })
    | .fault r => (.fault r, { inst with state := tickState Config.tickCycles 0 inst.state, faulted := true })
    | .refused r => (.refused r, { inst with state := tickState Config.tickCycles 0 inst.state, faulted := true })
  | .encode => (.snapshot (encodeSnapshot inst.state), inst)
  | .setSpeed => (.done, inst)
  | .stop => (.done, { inst with released := true })

/-- R382 to R384: a call on the instance; `none` if the host may not make it (log 13). -/
def Instance.call (completion : State → Bool) (inst : Instance) (c : Call) : Option (Answer × Instance) :=
  if inst.allows c then some (inst.perform completion c) else none

end Sys2Proof.Machine
end

