-- ==== Sys2Proof/Safety.lean ====
section
/-! DEFINITION. The invariant of the machine, what an instruction may leave changed, and what counts as a safe run: the terms
claims use. -/

namespace Sys2Proof.Machine

/-! ## The invariant -/

/-- R21: the low nibble of `F` is 0. -/
abbrev State.flagsClean (s : State) : Prop := s.f &&& 0x0F = 0

/-- R33: an armed halt bug is consumed by the next step: the core runs, with interrupts masked and no `EI` waiting. -/
abbrev State.haltBugSafe (s : State) : Prop :=
  s.haltBug = true → s.mode = .running ∧ s.ime = false ∧ s.imePending = false

/-- The byte arrays are in canonical form. -/
abbrev State.memWf (s : State) : Prop := s.mem.wf = true

/-- The invariant every step keeps. -/
abbrev State.Inv (s : State) : Prop := s.flagsClean ∧ s.haltBugSafe ∧ s.memWf

/-! ## What an instruction leaves unchanged -/

/-- The bytes whose reading a store of `v` at `addr` can change: the byte at `addr`, under both its addresses where the echo
gives it two (R69), and, where the store unmaps the boot ROM, the 256 addresses it covered (R74). -/
def StoreReaches (s : State) (addr : Word) (v : Byte) (a : Word) : Prop :=
  homeAddr a = homeAddr addr ∨ (addr = 0xFF50 ∧ v.getLsbD 0 = true ∧ s.bootMapped = true ∧ a.toNat < 0x0100)

/-- What leads from `s` to `t` leaves unchanged: of the registers only those of `regs` may change, `SP` only if `spMoves`, of
the flags only those whose bit of `F` is set in `flags`; of the bus only what the stores listed in `stores` (address and byte,
in order) reach. -/
structure Frame (regs : List R8) (spMoves : Bool) (flags : Byte) (stores : List (Word × Byte)) (s t : State) : Prop where
  /-- every other register -/
  registers : ∀ r, r ≠ .mHL → r ∉ regs → t.getR8 r = s.getR8 r
  stackPointer : spMoves = false → t.sp = s.sp
  /-- every other flag -/
  flagsKept : (t.f ^^^ s.f) &&& (0xF0 &&& ~~~flags) = 0
  /-- all of `F` where no flag is named -/
  statusKept : flags = 0 → t.f = s.f
  /-- every byte outside the stores reads as before -/
  bytes : ∀ a : Word, (∀ p ∈ stores, ¬ StoreReaches s p.1 p.2 a) → t.read a = s.read a
  cartridge : t.mem.rom = s.mem.rom
  bootRom : t.mem.boot = s.mem.boot
  /-- `IF` unless it is stored to -/
  requests : (∀ p ∈ stores, p.1 ≠ 0xFF0F) → t.iflag = s.iflag
  /-- `IE` unless it is stored to -/
  enables : (∀ p ∈ stores, p.1 ≠ 0xFFFF) → t.ie = s.ie
  /-- the overlay unless a store unmaps it -/
  overlay : (∀ p ∈ stores, ¬ (p.1 = 0xFF50 ∧ p.2.getLsbD 0 = true)) → t.bootMapped = s.bootMapped
  inputs : t.inputs = s.inputs

/-- The control bits no operation but a system instruction writes; the fetch has consumed an armed halt bug (R12). -/
def SameControl (s t : State) : Prop :=
  t.ime = s.ime ∧ t.imePending = s.imePending ∧ t.mode = s.mode ∧ t.haltBug = false

/-! ## Runs -/

/-- One step leads from `s` to `t`. -/
def StepsTo (s t : State) : Prop := step s = .next t

/-- Some number of steps leads from `s` to `t`. -/
inductive Reaches (s : State) : State → Prop where
  | refl : Reaches s s
  | tail {t u : State} : Reaches s t → StepsTo t u → Reaches s u

/-- `steps` steps lead from `s` to `t`, and the M-cycles they return (R406) sum to `total`. -/
inductive RunsTimed (s : State) : (steps total : Nat) → State → Prop where
  | refl : RunsTimed s 0 0 s
  | tail {steps total n : Nat} {t u : State} :
    RunsTimed s steps total t → stepTimed t = .next (u, n) → RunsTimed s (steps + 1) (total + n) u

/-- A run of `n` steps from `s` meets no fault (the premise of every claim about a program, spec/46_system.md R326). -/
def runsSafely (n : Nat) (s : State) : Bool :=
  match n with
  | 0 => true
  | k + 1 =>
    match step s with
    | .next t => runsSafely k t
    | .fault _ => false
    | .refused _ => false

end Sys2Proof.Machine
end

