-- ==== Sys2Proof/WellFormed.lean ====
section
/-! DEFINITION. Which terms of `Instr` are instructions. Every operand field of every constructor has exactly the width its
encoding gives it (R101), so two checks remain: the eleven illegal bytes select no instruction (R116), and the prefix byte is
not an instruction by itself (R118). -/

namespace Sys2Proof

/-- R116: the eleven bytes that select no instruction. -/
def Instr.isIllegalByte : Instr → Bool
  | .illegal_D3 | .illegal_DB | .illegal_DD | .illegal_E3 | .illegal_E4 | .illegal_EB | .illegal_EC | .illegal_ED
  | .illegal_F4 | .illegal_FC | .illegal_FD => true
  | _ => false

/-- R118: the prefix row, which stands for no instruction by itself (the byte after it selects a row of the second page). -/
def Instr.isPrefixRow : Instr → Bool
  | .prefix_CB _ => true
  | _ => false

/-- A term that is an instruction. -/
abbrev Instr.WellFormed (i : Instr) : Prop := i.isIllegalByte = false ∧ i.isPrefixRow = false

end Sys2Proof
end

