-- ==== Sys2Proof/Certificates/Slice0/Obligations.lean ====
section
/-! DEFINITION. The statements for the provers. Each docstring says what is stated and which rules of spec/ it formalises; a
statement marked "derived" rests on the sections named, and says where it states a choice of the model (with its log entry). -/

open Sys2Proof Sys2Proof.Machine

/-- Decoding the bytes of any well-formed instruction gives it back, with the bytes after it (derived: 30_encoding.md R100,
30_encoding.md R103, 30_encoding.md R113, 30_encoding.md R115). -/
def Obligations.DecodeOfEncodeIsIdentity : Prop :=
  ∀ (i : Instr) (rest : List Byte), i.WellFormed → decode (encode i ++ rest) = .ok (i, rest)

/-- What the decoder reads, encoded again, is the bytes it read; it never yields the prefix row (derived: 30_encoding.md
R103, 30_encoding.md R113, 30_encoding.md R115, 30_encoding.md R118). -/
def Obligations.EncodeOfDecodeIsIdentity : Prop :=
  ∀ (bs rest : List Byte) (i : Instr), decode bs = .ok (i, rest) → encode i ++ rest = bs ∧ i.isPrefixRow = false

/-- Exactly eleven first bytes select no instruction, and executing one raises IllegalOpcode with that byte (stated: R116).
-/
def Obligations.ElevenBytesAreIllegalAndFault : Prop :=
  ∀ (op b1 b2 : Byte),
    ((decodeBytes op b1 b2).isIllegalByte = true ↔
      op ∈ [0xD3, 0xDB, 0xDD, 0xE3, 0xE4, 0xEB, 0xEC, 0xED, 0xF4, 0xFC, 0xFD]) ∧
    (op ∈ [0xD3, 0xDB, 0xDD, 0xE3, 0xE4, 0xEB, 0xEC, 0xED, 0xF4, 0xFC, 0xFD] →
      ∀ s : State, exec (decodeBytes op b1 b2) s = .fault (.illegalOpcode op s.pc))

/-- A word of each family, written bit by bit from the spec's patterns, decodes to its instruction (derived: 30_encoding.md
R113, 30_encoding.md R115). -/
def Obligations.WrittenWordsDecode : Prop :=
  decode [0b01001011] = .ok (.ld_C_E, []) ∧
  decode [0b00110110, 0x5A] = .ok (.ld_mHL_n 0x5A, []) ∧
  decode [0b11100000, 0x80] = .ok (.ldh_mn_A 0x80, []) ∧
  decode [0b00010001, 0x34, 0x12] = .ok (.ld_DE_nn 0x1234, []) ∧
  decode [0b11110101] = .ok (.push_AF, []) ∧
  decode [0b10011000] = .ok (.sbc_A_B, []) ∧
  decode [0b11111110, 0x42] = .ok (.cp_A_n 0x42, []) ∧
  decode [0b00111001] = .ok (.add_HL_SP, []) ∧
  decode [0b11111000, 0xFE] = .ok (.ld_HL_SPe 0xFE, []) ∧
  decode [0b00001111] = .ok (.rrca, []) ∧
  decode [0b11001011, 0b00111110] = .ok (.srl_mHL, []) ∧
  decode [0b11001011, 0b01101010] = .ok (.bit_5_D, []) ∧
  decode [0b11001011, 0b10000111] = .ok (.res_0_A, []) ∧
  decode [0b11001011, 0b11111110] = .ok (.set_7_mHL, []) ∧
  decode [0b00110000, 0xFB] = .ok (.jr_NC_e 0xFB, []) ∧
  decode [0b11001100, 0x00, 0x40] = .ok (.call_Z_nn 0x4000, []) ∧
  decode [0b11101111] = .ok (.rst_28, []) ∧
  decode [0b01110110] = .ok (.halt, []) ∧
  decode [0b00010000, 0x00] = .ok (.stop 0x00, []) ∧
  decode [0b11111011] = .ok (.ei, []) ∧
  decode [0b11101101] = .ok (.illegal_ED, [])

/-- Every row of the address map: what a read returns and what a write does (stated: R63). -/
def Obligations.AddressMapOfTheBus : Prop :=
  ∀ (s : State) (a : Word) (v : Byte),
    (a.toNat < 0x0100 → s.bootMapped = true → s.read a = s.mem.get .boot a.toNat ∧ s.write a v = s) ∧
    (a.toNat < 0x0100 → s.bootMapped = false → s.read a = s.mem.get .rom a.toNat ∧ s.write a v = s) ∧
    (0x0100 ≤ a.toNat → a.toNat < 0x8000 → s.read a = s.mem.get .rom a.toNat ∧ s.write a v = s) ∧
    (0x8000 ≤ a.toNat → a.toNat < 0xA000 → s.read a = s.mem.get .vram (a.toNat - 0x8000) ∧
      s.write a v = { s with mem := s.mem.put .vram (a.toNat - 0x8000) v }) ∧
    (0xA000 ≤ a.toNat → a.toNat < 0xC000 → s.read a = 0xFF ∧ s.write a v = s) ∧
    (0xC000 ≤ a.toNat → a.toNat < 0xE000 → s.read a = s.mem.get .wram (a.toNat - 0xC000) ∧
      s.write a v = { s with mem := s.mem.put .wram (a.toNat - 0xC000) v }) ∧
    (0xE000 ≤ a.toNat → a.toNat < 0xFE00 → s.read a = s.mem.get .wram (a.toNat - 0xE000) ∧
      s.write a v = { s with mem := s.mem.put .wram (a.toNat - 0xE000) v }) ∧
    (0xFE00 ≤ a.toNat → a.toNat < 0xFEA0 → s.read a = s.mem.get .oam (a.toNat - 0xFE00) ∧
      s.write a v = { s with mem := s.mem.put .oam (a.toNat - 0xFE00) v }) ∧
    (0xFEA0 ≤ a.toNat → a.toNat < 0xFF00 → s.read a = 0xFF ∧ s.write a v = s) ∧
    (0xFF00 ≤ a.toNat → a.toNat < 0xFF80 → a ≠ 0xFF0F → a ≠ 0xFF50 → s.read a = s.mem.get .io (a.toNat - 0xFF00) ∧
      s.write a v = { s with mem := s.mem.put .io (a.toNat - 0xFF00) v }) ∧
    (a = 0xFF0F → s.read a = 0xE0 ||| s.iflag.setWidth 8 ∧ s.write a v = { s with iflag := v.setWidth 5 }) ∧
    (a = 0xFF50 → s.read a = s.mem.get .io 0x50 ∧
      s.write a v = { s with
        mem := s.mem.put .io 0x50 v, bootMapped := if v.getLsbD 0 then false else s.bootMapped }) ∧
    (0xFF80 ≤ a.toNat → a.toNat < 0xFFFF → s.read a = s.mem.get .hram (a.toNat - 0xFF80) ∧
      s.write a v = { s with mem := s.mem.put .hram (a.toNat - 0xFF80) v }) ∧
    (a = 0xFFFF → s.read a = s.ie ∧ s.write a v = { s with ie := v })

/-- A byte stored in RAM, I/O storage or IE reads back, work RAM under both its addresses; IF keeps five bits (derived:
20_memory.md R66, 20_memory.md R68, 20_memory.md R69, 20_memory.md R70, 20_memory.md R72, 20_memory.md R73, 20_memory.md R74,
20_memory.md R75, 20_memory.md R76). -/
def Obligations.StoredByteReadsBack : Prop :=
  ∀ (s : State) (a b : Word) (v : Byte), s.memWf →
    ((0x8000 ≤ a.toNat ∧ a.toNat < 0xA000) ∨ (0xC000 ≤ a.toNat ∧ a.toNat < 0xFEA0) ∨ 0xFF00 ≤ a.toNat) →
    homeAddr b = homeAddr a →
    (a ≠ 0xFF0F → (s.write a v).read b = v) ∧ (a = 0xFF0F → (s.write a v).read b = 0xE0 ||| (v &&& 0x1F))

/-- A store changes the reading of no other address, but where it unmaps the boot ROM (derived: 20_memory.md R61,
20_memory.md R62, 20_memory.md R69, 20_memory.md R74, 20_memory.md R83). -/
def Obligations.StoreLeavesOtherBytesAlone : Prop :=
  ∀ (s : State) (a b : Word) (v : Byte), s.memWf → ¬ StoreReaches s a v b → (s.write a v).read b = s.read b

/-- An unmapped address reads 0xFF in every state, and discards every write without effect (stated: R77). -/
def Obligations.OpenBusReadsTheSentinel : Prop :=
  ∀ (s : State) (a : Word),
    ((0xA000 ≤ a.toNat ∧ a.toNat < 0xC000) ∨ (0xFEA0 ≤ a.toNat ∧ a.toNat < 0xFF00) ↔ s.owner a = .unmapped) ∧
    ((0xA000 ≤ a.toNat ∧ a.toNat < 0xC000) ∨ (0xFEA0 ≤ a.toNat ∧ a.toNat < 0xFF00) →
      s.read a = 0xFF ∧ ∀ v, s.write a v = s)

/-- 0xFF50 stores its byte; bit 0 unmaps the boot ROM at once; no write maps it again (stated: R74). -/
def Obligations.BootOverlayAndItsDisableRegister : Prop :=
  ∀ (s : State) (v : Byte), s.memWf →
    (s.write 0xFF50 v).mem.get .io 0x50 = v ∧ (s.write 0xFF50 v).read 0xFF50 = v ∧
    (v.getLsbD 0 = true → (s.write 0xFF50 v).bootMapped = false ∧
      ∀ a : Word, a.toNat < 0x0100 → (s.write 0xFF50 v).read a = s.mem.get .rom a.toNat) ∧
    (v.getLsbD 0 = false → (s.write 0xFF50 v).bootMapped = s.bootMapped) ∧
    (∀ (a : Word) (w : Byte), (s.write a w).bootMapped = true → s.bootMapped = true) ∧
    s.read 0xFF50 = s.mem.get .io 0x50

/-- Construction leaves every register, flag and array as the reset table says, in both columns (stated: R38, R370). -/
def Obligations.ConstructionGivesTheResetTable : Prop :=
  ∀ (p : Params) (image : List Byte) (bootRom : Option (List Byte)) (video audio : Bool),
    (romAccepted p image = false → construct p image bootRom video audio = .error .invalidRomFormat) ∧
    (romAccepted p image = true → ∃ s : State, construct p image bootRom video audio = .ok s ∧
      (bootRom = none →
        s.a = 0x01 ∧ s.f = 0xB0 ∧ s.b = 0x00 ∧ s.c = 0x13 ∧ s.d = 0x00 ∧ s.e = 0xD8 ∧ s.h = 0x01 ∧ s.l = 0x4D ∧
        s.sp = 0xFFFE ∧ s.pc = 0x0100 ∧ s.bootMapped = false) ∧
      (∀ img, bootRom = some img →
        s.a = 0x00 ∧ s.f = 0x00 ∧ s.b = 0x00 ∧ s.c = 0x00 ∧ s.d = 0x00 ∧ s.e = 0x00 ∧ s.h = 0x00 ∧ s.l = 0x00 ∧
        s.sp = 0x0000 ∧ s.pc = 0x0000 ∧ s.bootMapped = true) ∧
      s.ime = false ∧ s.imePending = false ∧ s.haltBug = false ∧ s.mode = .running ∧ s.ie = 0x00 ∧ s.iflag = 0 ∧
      (∀ i, i < 32768 → s.mem.get .rom i = image.getD i 0xFF) ∧
      (∀ i, i < 256 → s.mem.get .boot i = (bootRom.getD []).getD i 0xFF) ∧
      (∀ r : Region, r ≠ .rom → r ≠ .boot → ∀ i, i < r.size → (r = .io → i ≠ 0x0F) → s.mem.get r i = p.ramInit))

/-- State.reset is the state constructed without a boot ROM from an image of 0xFF bytes (the model's choice, logs 1 and 2)
(derived: 10_state.md R38, 48_host_interface.md R370). -/
def Obligations.ResetStateIsTheConstructionFromAnErasedImage : Prop :=
  construct {} (List.replicate 0x150 0xFF) none true true = .ok State.reset

/-- Construction fails with InvalidRomFormat exactly on a short image or an enforced wrong header checksum (stated: R372). -/
def Obligations.RomImageCheckRejects : Prop :=
  (∀ (p : Params) (image : List Byte) (bootRom : Option (List Byte)) (video audio : Bool),
    construct p image bootRom video audio = .error .invalidRomFormat ↔
      image.length < 0x150 ∨
      (p.enforceHeaderChecksum = true ∧
        (List.range 25).foldl (fun x k => x - image.getD (0x134 + k) 0 - 1) (0 : Byte) ≠ image.getD 0x14D 0)) ∧
  ({} : Params).enforceHeaderChecksum = false

/-- A step that goes on is exec of the instruction the bytes at PC decode to, in the state its first phases leave, with its
cycles (derived: 00_scope.md R12, 30_encoding.md R103, 60_exceptions.md R400, 60_exceptions.md R406). -/
def Obligations.StepRunsTheDecodedInstruction : Prop :=
  ∀ (s s1 : State) (i : Instr) (rest : List Byte),
    ({ s with inputs := s.inputs.tail }.latch (s.inputs.headD .none).irq).wakeUp (s.inputs.headD .none).wake = some s1 →
    ((s1.ready.haltBug = false ∧
        decode [s1.ready.read s1.ready.pc, s1.ready.read (s1.ready.pc + 1), s1.ready.read (s1.ready.pc + 2)] = .ok (i, rest)) ∨
      (s1.ready.haltBug = true ∧
        decode [s1.ready.read s1.ready.pc, s1.ready.read s1.ready.pc, s1.ready.read (s1.ready.pc + 1)] = .ok (i, rest))) →
    step s = exec i s1.ready ∧
      ∀ t, exec i s1.ready = .next t →
        stepTimed s = .next (t, (if s1.dispatchDue then 5 else 0) + cycles i s1.ready)

/-- An idle step changes IF only and takes 1 cycle; wake_in wakes Stopped, a pending request wakes Halted, in the same step
(stated: R401, R402). -/
def Obligations.StoppedAndHaltedSteps : Prop :=
  ∀ (s : State) (irq : BitVec 5) (wake : Bool),
    (s.mode = .stopped → wake = false →
      stepWith ⟨irq, wake⟩ s = .next ({ s with iflag := s.iflag ||| irq }, 1)) ∧
    (s.mode = .stopped → wake = true → stepWith ⟨irq, wake⟩ s = stepWith ⟨irq, wake⟩ { s with mode := .running }) ∧
    (s.mode = .halted → s.ie.setWidth 5 &&& (s.iflag ||| irq) = 0 →
      stepWith ⟨irq, wake⟩ s = .next ({ s with iflag := s.iflag ||| irq }, 1)) ∧
    (s.mode = .halted → s.ie.setWidth 5 &&& (s.iflag ||| irq) ≠ 0 →
      stepWith ⟨irq, wake⟩ s = stepWith ⟨irq, wake⟩ { s with mode := .running })

/-- A dispatch acknowledges the lowest pending source, masks interrupts, pushes PC and goes to 0x40 + 8i, for 5 cycles
(stated: R404). -/
def Obligations.InterruptDispatchEntry : Prop :=
  ∀ (s : State) (irq : BitVec 5) (wake : Bool) (i : Nat), s.mode = .running → s.ime = true → i < 5 →
    (s.ie.setWidth 5 &&& (s.iflag ||| irq)).getLsbD i = true →
    (∀ j, j < i → (s.ie.setWidth 5 &&& (s.iflag ||| irq)).getLsbD j = false) →
    let u := { s with
      iflag := (s.iflag ||| irq) &&& ~~~((1 : BitVec 5) <<< i), ime := false, imePending := false,
      sp := s.sp - 2, pc := BitVec.ofNat 16 (0x0040 + 8 * i) }
    let d := (u.write (s.sp - 1) (hi s.pc)).write (s.sp - 2) (lo s.pc)
    stepWith ⟨irq, wake⟩ s =
      match stepWith ⟨0, wake⟩ d with
      | .next (t, n) => .next (t, n + 5)
      | .fault r => .fault r
      | .refused r => .refused r

/-- A pending EI takes effect after the dispatch test: the instruction after EI runs first, then a dispatch can come (stated:
R405). -/
def Obligations.DelayedEnableOfEI : Prop :=
  ∀ (s : State) (irq : BitVec 5) (wake : Bool), s.mode = .running → s.ime = false → s.imePending = true →
    let r := { s with iflag := s.iflag ||| irq, ime := true, imePending := false }
    (∀ t n, stepWith ⟨irq, wake⟩ s = .next (t, n) ↔ exec r.nextInstr r = .next t ∧ n = cycles r.nextInstr r) ∧
    (∀ t n, stepWith ⟨irq, wake⟩ s = .next (t, n) → r.nextInstr ≠ .di → t.ime = true ∧ t.dispatchDue = decide (t.pending ≠ 0)) ∧
    (∀ t n, stepWith ⟨irq, wake⟩ s = .next (t, n) → r.nextInstr = .di → t.ime = false ∧ t.dispatchDue = false)

/-- Fetch8 reads at PC and advances it, but an armed halt bug is cleared instead; 0xCB under it is SET 1,E (derived:
00_scope.md R12, 10_state.md R33, 30_encoding.md R118). -/
def Obligations.FetchAndTheHaltBug : Prop :=
  ∀ (s : State) (n : Nat),
    (s.haltBug = false → s.fetch8 = (s.read s.pc, { s with pc := s.pc + 1 }) ∧
      s.fetched (n + 1) = { s with pc := s.pc + BitVec.ofNat 16 (n + 1) }) ∧
    (s.haltBug = true → s.fetch8 = (s.read s.pc, { s with haltBug := false }) ∧
      s.fetched (n + 1) = { s with pc := s.pc + BitVec.ofNat 16 n, haltBug := false } ∧
      (s.read s.pc = 0xCB → s.nextInstr = .set_1_E))

/-- The only fault of a step is IllegalOpcode, with an illegal byte and the address it was fetched from; no step refuses
(stated: R410). -/
def Obligations.StepFaultsOnlyOnAnIllegalByte : Prop :=
  ∀ s : State,
    (∀ x, step s = .fault x → ∃ s1 : State,
      ({ s with inputs := s.inputs.tail }.latch (s.inputs.headD .none).irq).wakeUp (s.inputs.headD .none).wake = some s1 ∧
      x = .illegalOpcode (s1.ready.read s1.ready.pc) s1.ready.pc ∧
      s1.ready.read s1.ready.pc ∈ [0xD3, 0xDB, 0xDD, 0xE3, 0xE4, 0xEB, 0xEC, 0xED, 0xF4, 0xFC, 0xFD]) ∧
    (∀ x, step s ≠ .refused x)

/-- LD r,r' ; LD r,(HL) ; LD (HL),r ; LD r,n ; LD (HL),n : encoding, cycles and completion with the value loaded (stated:
R140, R141, R142, R143, R144). -/
def Obligations.EightBitLoadsBetweenOperands : Prop :=
  ∀ (s : State) (y z : Nat) (n : Byte), y < 8 → z < 8 →
    (¬ (y = 6 ∧ z = 6) →
      encode (ldR8R8 (R8.ofIndex y) (R8.ofIndex z)) = [BitVec.ofNat 8 (0x40 + 8 * y + z)] ∧
      cycles (ldR8R8 (R8.ofIndex y) (R8.ofIndex z)) s = (if y = 6 ∨ z = 6 then 2 else 1) ∧
      exec (ldR8R8 (R8.ofIndex y) (R8.ofIndex z)) s =
        .next ((s.fetched 1).setR8 (R8.ofIndex y) (s.getR8 (R8.ofIndex z)))) ∧
    encode (ldR8Imm (R8.ofIndex y) n) = [BitVec.ofNat 8 (6 + 8 * y), n] ∧
    cycles (ldR8Imm (R8.ofIndex y) n) s = (if y = 6 then 3 else 2) ∧
    exec (ldR8Imm (R8.ofIndex y) n) s = .next ((s.fetched 2).setR8 (R8.ofIndex y) n)

/-- LD A,(BC) (DE) (HL+) (HL-) and LD (BC) (DE) (HL+) (HL-),A : encoding, cycles, completion, HL stepped after use (stated:
R145, R146, R147, R148, R155, R156, R157, R158). -/
def Obligations.LoadsAndStoresThroughPairs : Prop :=
  ∀ s : State,
    (encode .ld_A_mBC = [0x0A] ∧ encode .ld_A_mDE = [0x1A] ∧ encode .ld_A_mHLi = [0x2A] ∧ encode .ld_A_mHLd = [0x3A] ∧
      encode .ld_mBC_A = [0x02] ∧ encode .ld_mDE_A = [0x12] ∧ encode .ld_mHLi_A = [0x22] ∧ encode .ld_mHLd_A = [0x32]) ∧
    (∀ p : R16Mem, cycles (loadAMem p) s = 2 ∧ cycles (storeAMem p) s = 2) ∧
    exec .ld_A_mBC s = .next { s.fetched 1 with a := s.read (join s.b s.c) } ∧
    exec .ld_A_mDE s = .next { s.fetched 1 with a := s.read (join s.d s.e) } ∧
    exec .ld_A_mHLi s = .next { s.fetched 1 with
      a := s.read (join s.h s.l), h := hi (join s.h s.l + 1), l := lo (join s.h s.l + 1) } ∧
    exec .ld_A_mHLd s = .next { s.fetched 1 with
      a := s.read (join s.h s.l), h := hi (join s.h s.l - 1), l := lo (join s.h s.l - 1) } ∧
    exec .ld_mBC_A s = .next ((s.fetched 1).write (join s.b s.c) s.a) ∧
    exec .ld_mDE_A s = .next ((s.fetched 1).write (join s.d s.e) s.a) ∧
    exec .ld_mHLi_A s = .next { (s.fetched 1).write (join s.h s.l) s.a with
      h := hi (join s.h s.l + 1), l := lo (join s.h s.l + 1) } ∧
    exec .ld_mHLd_A s = .next { (s.fetched 1).write (join s.h s.l) s.a with
      h := hi (join s.h s.l - 1), l := lo (join s.h s.l - 1) }

/-- LD A,(nn) ; LD (nn),A ; LDH with C and with n : encoding, cycles and completion (stated: R149, R150, R151, R152, R153,
R154). -/
def Obligations.DirectAndHighPageLoads : Prop :=
  ∀ (s : State) (nn : Word) (n : Byte),
    (encode (.ld_A_mnn nn) = [0xFA, lo nn, hi nn] ∧ encode (.ld_mnn_A nn) = [0xEA, lo nn, hi nn] ∧
      encode .ldh_A_mC = [0xF2] ∧ encode .ldh_mC_A = [0xE2] ∧ encode (.ldh_A_mn n) = [0xF0, n] ∧
      encode (.ldh_mn_A n) = [0xE0, n]) ∧
    (cycles (.ld_A_mnn nn) s = 4 ∧ cycles (.ld_mnn_A nn) s = 4 ∧ cycles .ldh_A_mC s = 2 ∧ cycles .ldh_mC_A s = 2 ∧
      cycles (.ldh_A_mn n) s = 3 ∧ cycles (.ldh_mn_A n) s = 3) ∧
    exec (.ld_A_mnn nn) s = .next { s.fetched 3 with a := s.read nn } ∧
    exec (.ld_mnn_A nn) s = .next ((s.fetched 3).write nn s.a) ∧
    exec .ldh_A_mC s = .next { s.fetched 1 with a := s.read (join 0xFF s.c) } ∧
    exec .ldh_mC_A s = .next ((s.fetched 1).write (join 0xFF s.c) s.a) ∧
    exec (.ldh_A_mn n) s = .next { s.fetched 2 with a := s.read (join 0xFF n) } ∧
    exec (.ldh_mn_A n) s = .next ((s.fetched 2).write (join 0xFF n) s.a)

/-- LD rr,nn ; LD (nn),SP ; LD SP,HL : encoding, cycles and completion (stated: R170, R171, R172). -/
def Obligations.SixteenBitLoads : Prop :=
  ∀ (s : State) (nn : Word),
    (encode (.ld_BC_nn nn) = [0x01, lo nn, hi nn] ∧ encode (.ld_DE_nn nn) = [0x11, lo nn, hi nn] ∧
      encode (.ld_HL_nn nn) = [0x21, lo nn, hi nn] ∧ encode (.ld_SP_nn nn) = [0x31, lo nn, hi nn] ∧
      encode (.ld_mnn_SP nn) = [0x08, lo nn, hi nn] ∧ encode .ld_SP_HL = [0xF9]) ∧
    (∀ p : R16, cycles (ldR16Imm p nn) s = 3) ∧ cycles (.ld_mnn_SP nn) s = 5 ∧ cycles .ld_SP_HL s = 2 ∧
    exec (.ld_BC_nn nn) s = .next { s.fetched 3 with b := hi nn, c := lo nn } ∧
    exec (.ld_DE_nn nn) s = .next { s.fetched 3 with d := hi nn, e := lo nn } ∧
    exec (.ld_HL_nn nn) s = .next { s.fetched 3 with h := hi nn, l := lo nn } ∧
    exec (.ld_SP_nn nn) s = .next { s.fetched 3 with sp := nn } ∧
    exec (.ld_mnn_SP nn) s = .next (((s.fetched 3).write nn (lo s.sp)).write (nn + 1) (hi s.sp)) ∧
    exec .ld_SP_HL s = .next { s.fetched 1 with sp := join s.h s.l }

/-- PUSH stores high byte then low byte below SP and lowers SP by 2; POP loads them and raises SP by 2; POP AF drops bits 3:0
(stated: R173, R174, R175). -/
def Obligations.PushAndPopOfAPair : Prop :=
  ∀ s : State,
    (encode .push_BC = [0xC5] ∧ encode .push_DE = [0xD5] ∧ encode .push_HL = [0xE5] ∧ encode .push_AF = [0xF5] ∧
      encode .pop_BC = [0xC1] ∧ encode .pop_DE = [0xD1] ∧ encode .pop_HL = [0xE1] ∧ encode .pop_AF = [0xF1]) ∧
    (∀ p : R16Stk, cycles (pushR16 p) s = 4 ∧ cycles (popR16 p) s = 3) ∧
    exec .push_BC s = .next { ((s.fetched 1).write (s.sp - 1) s.b).write (s.sp - 2) s.c with sp := s.sp - 2 } ∧
    exec .push_DE s = .next { ((s.fetched 1).write (s.sp - 1) s.d).write (s.sp - 2) s.e with sp := s.sp - 2 } ∧
    exec .push_HL s = .next { ((s.fetched 1).write (s.sp - 1) s.h).write (s.sp - 2) s.l with sp := s.sp - 2 } ∧
    exec .push_AF s = .next { ((s.fetched 1).write (s.sp - 1) s.a).write (s.sp - 2) s.f with sp := s.sp - 2 } ∧
    exec .pop_BC s = .next { s.fetched 1 with b := s.read (s.sp + 1), c := s.read s.sp, sp := s.sp + 2 } ∧
    exec .pop_DE s = .next { s.fetched 1 with d := s.read (s.sp + 1), e := s.read s.sp, sp := s.sp + 2 } ∧
    exec .pop_HL s = .next { s.fetched 1 with h := s.read (s.sp + 1), l := s.read s.sp, sp := s.sp + 2 } ∧
    exec .pop_AF s = .next { s.fetched 1 with a := s.read (s.sp + 1), f := s.read s.sp &&& 0xF0, sp := s.sp + 2 }

/-- With the stack in work RAM, PUSH p then POP q leaves q equal to p (low nibble of F dropped) and SP as it was (derived:
00_scope.md R13, 41_load16_stack.md R173, 41_load16_stack.md R175, 70_reset_and_hazards.md R465). -/
def Obligations.PopAfterPushRestoresThePair : Prop :=
  ∀ (s : State) (p q : R16Stk), s.memWf → 0xC002 ≤ s.sp.toNat → s.sp.toNat ≤ 0xE000 →
    ∃ t u : State, exec (pushR16 p) s = .next t ∧ exec (popR16 q) t = .next u ∧
      u.getStk q = (if q = .AF then s.getStk p &&& 0xFFF0 else s.getStk p) ∧ u.sp = s.sp ∧
      ∀ x : R16Stk, x ≠ q → u.getStk x = s.getStk x

/-- Each of the eight 8-bit operations has the forms A,r ; A,(HL) ; A,n, which differ in the second operand only (stated:
R190). -/
def Obligations.EightBitAluOperandForms : Prop :=
  ∀ (s : State) (y z : Nat) (n : Byte), y < 8 → z < 8 →
    encode (aluR8 (AluOp.ofIndex y) (R8.ofIndex z)) = [BitVec.ofNat 8 (0x80 + 8 * y + z)] ∧
    cycles (aluR8 (AluOp.ofIndex y) (R8.ofIndex z)) s = (if z = 6 then 2 else 1) ∧
    encode (aluImm (AluOp.ofIndex y) n) = [BitVec.ofNat 8 (0xC6 + 8 * y), n] ∧
    cycles (aluImm (AluOp.ofIndex y) n) s = 2 ∧
    ∃ t u : State, exec (aluR8 (AluOp.ofIndex y) (R8.ofIndex z)) s = .next t ∧
      exec (aluImm (AluOp.ofIndex y) (s.getR8 (R8.ofIndex z))) s = .next u ∧
      t = { u with pc := (s.fetched 1).pc, haltBug := false }

/-- ADD and ADC: A becomes A + b + carry-in modulo 256; Z, H, C from the integer sum, N = 0 (stated: R191, R192). -/
def Obligations.AdditionAndItsFlags : Prop :=
  ∀ (s : State) (r : R8) (n : Byte),
    let sum (k : Nat) (b : Byte) (c : Nat) : State := { s.fetched k with
      a := BitVec.ofNat 8 (s.a.toNat + b.toNat + c)
      f := packF (decide ((s.a.toNat + b.toNat + c) % 256 = 0)) false
        (decide (s.a.toNat % 16 + b.toNat % 16 + c > 0x0F)) (decide (s.a.toNat + b.toNat + c > 0xFF)) }
    let cin : Nat := if s.f.getLsbD 4 then 1 else 0
    exec (aluR8 .add r) s = .next (sum 1 (s.getR8 r) 0) ∧ exec (aluImm .add n) s = .next (sum 2 n 0) ∧
    exec (aluR8 .adc r) s = .next (sum 1 (s.getR8 r) cin) ∧ exec (aluImm .adc n) s = .next (sum 2 n cin)

/-- SUB, SBC and CP: A - b - borrow modulo 256; Z, H, C from the integers, N = 1; CP writes no A (stated: R193, R194, R198).
-/
def Obligations.SubtractionCompareAndTheirFlags : Prop :=
  ∀ (s : State) (r : R8) (n : Byte),
    let flags (b : Byte) (c : Nat) : Byte :=
      packF (decide ((s.a.toNat + 512 - b.toNat - c) % 256 = 0)) true
        (decide (s.a.toNat % 16 < b.toNat % 16 + c)) (decide (s.a.toNat < b.toNat + c))
    let diff (k : Nat) (b : Byte) (c : Nat) : State := { s.fetched k with
      a := BitVec.ofNat 8 (s.a.toNat + 512 - b.toNat - c)
      f := flags b c }
    let cin : Nat := if s.f.getLsbD 4 then 1 else 0
    exec (aluR8 .sub r) s = .next (diff 1 (s.getR8 r) 0) ∧ exec (aluImm .sub n) s = .next (diff 2 n 0) ∧
    exec (aluR8 .sbc r) s = .next (diff 1 (s.getR8 r) cin) ∧ exec (aluImm .sbc n) s = .next (diff 2 n cin) ∧
    exec (aluR8 .cp r) s = .next { s.fetched 1 with f := flags (s.getR8 r) 0 } ∧
    exec (aluImm .cp n) s = .next { s.fetched 2 with f := flags n 0 }

/-- AND, XOR, OR: A bitwise with b; Z from the result, N = C = 0, H = 1 for AND and 0 otherwise (stated: R195, R196, R197).
-/
def Obligations.LogicAndItsFlags : Prop :=
  ∀ (s : State) (r : R8) (n : Byte),
    let result (k : Nat) (v : Byte) (h : Bool) : State := { s.fetched k with a := v, f := packF (decide (v = 0)) false h false }
    exec (aluR8 .and r) s = .next (result 1 (s.a &&& s.getR8 r) true) ∧
    exec (aluImm .and n) s = .next (result 2 (s.a &&& n) true) ∧
    exec (aluR8 .xor r) s = .next (result 1 (s.a ^^^ s.getR8 r) false) ∧
    exec (aluImm .xor n) s = .next (result 2 (s.a ^^^ n) false) ∧
    exec (aluR8 .or r) s = .next (result 1 (s.a ||| s.getR8 r) false) ∧
    exec (aluImm .or n) s = .next (result 2 (s.a ||| n) false)

/-- INC and DEC of a register or of the byte at HL: the value modulo 256, Z, N, H; the carry flag is kept (stated: R199,
R200, R201, R202). -/
def Obligations.IncrementDecrementAndTheirFlags : Prop :=
  ∀ (s : State) (y : Nat), y < 8 →
    let d := R8.ofIndex y
    let v := s.getR8 d
    encode (incR8 d) = [BitVec.ofNat 8 (4 + 8 * y)] ∧ encode (decR8 d) = [BitVec.ofNat 8 (5 + 8 * y)] ∧
    cycles (incR8 d) s = (if y = 6 then 3 else 1) ∧ cycles (decR8 d) s = (if y = 6 then 3 else 1) ∧
    exec (incR8 d) s = .next { (s.fetched 1).setR8 d (BitVec.ofNat 8 (v.toNat + 1)) with
      f := packF (decide (v.toNat = 255)) false (decide (v.toNat % 16 = 15)) (s.f.getLsbD 4) } ∧
    exec (decR8 d) s = .next { (s.fetched 1).setR8 d (BitVec.ofNat 8 (v.toNat + 255)) with
      f := packF (decide (v.toNat = 1)) true (decide (v.toNat % 16 = 0)) (s.f.getLsbD 4) }

/-- DAA adjusts A by 0x06 and 0x60 as A and the flags ask; CPL complements A; SCF sets and CCF complements C; with their
flags (stated: R203, R204, R205, R206). -/
def Obligations.DecimalAdjustAndFlagInstructions : Prop :=
  ∀ s : State,
    let nf := s.f.getLsbD 6
    let hf := s.f.getLsbD 5
    let cf := s.f.getLsbD 4
    let low : Nat := if hf = true ∨ (nf = false ∧ s.a.toNat % 16 > 9) then 0x06 else 0
    let high : Nat := if cf = true ∨ (nf = false ∧ s.a.toNat > 0x99) then 0x60 else 0
    let value : Nat := (if nf then s.a.toNat + 256 - (low + high) else s.a.toNat + (low + high)) % 256
    (encode .daa = [0x27] ∧ encode .cpl = [0x2F] ∧ encode .scf = [0x37] ∧ encode .ccf = [0x3F]) ∧
    (cycles .daa s = 1 ∧ cycles .cpl s = 1 ∧ cycles .scf s = 1 ∧ cycles .ccf s = 1) ∧
    exec .daa s = .next { s.fetched 1 with
      a := BitVec.ofNat 8 value
      f := packF (decide (value = 0)) nf false (cf || (!nf && decide (s.a.toNat > 0x99))) } ∧
    exec .cpl s = .next { s.fetched 1 with a := s.a ^^^ 0xFF, f := packF (s.f.getLsbD 7) true true cf } ∧
    exec .scf s = .next { s.fetched 1 with f := packF (s.f.getLsbD 7) false false true } ∧
    exec .ccf s = .next { s.fetched 1 with f := packF (s.f.getLsbD 7) false false (!cf) }

/-- On packed decimal bytes, ADD then DAA is decimal addition and SUB then DAA decimal subtraction, with C the decimal carry
(derived: 42_alu8.md R191, 42_alu8.md R193, 42_alu8.md R203). -/
def Obligations.DecimalAdditionAndSubtraction : Prop :=
  ∀ (s : State) (n : Byte),
    let dec (b : Byte) : Nat := b.toNat / 16 * 10 + b.toNat % 16
    let packed (b : Byte) : Prop := b.toNat / 16 ≤ 9 ∧ b.toNat % 16 ≤ 9
    packed s.a → packed n →
    (∃ t u : State, exec (.add_A_n n) s = .next t ∧ exec .daa t = .next u ∧ packed u.a ∧
      dec u.a = (dec s.a + dec n) % 100 ∧ (u.cf = true ↔ dec s.a + dec n > 99)) ∧
    (∃ t u : State, exec (.sub_A_n n) s = .next t ∧ exec .daa t = .next u ∧ packed u.a ∧
      dec u.a = (dec s.a + 100 - dec n) % 100 ∧ (u.cf = true ↔ dec s.a < dec n))

/-- ADD HL,rr with H from bit 11 and C from bit 15, Z kept; INC rr and DEC rr with no flag changed (stated: R230, R231,
R232). -/
def Obligations.SixteenBitAdditionIncrementDecrement : Prop :=
  ∀ (s : State) (p : Nat), p < 4 →
    let rr := R16.ofIndex p
    let v := s.getR16 rr
    let hl := join s.h s.l
    encode (addHlR16 rr) = [BitVec.ofNat 8 (9 + 16 * p)] ∧ encode (incR16 rr) = [BitVec.ofNat 8 (3 + 16 * p)] ∧
    encode (decR16 rr) = [BitVec.ofNat 8 (11 + 16 * p)] ∧
    (cycles (addHlR16 rr) s = 2 ∧ cycles (incR16 rr) s = 2 ∧ cycles (decR16 rr) s = 2) ∧
    exec (addHlR16 rr) s = .next { s.fetched 1 with
      h := hi (BitVec.ofNat 16 (hl.toNat + v.toNat)), l := lo (BitVec.ofNat 16 (hl.toNat + v.toNat))
      f := packF (s.f.getLsbD 7) false (decide (hl.toNat % 4096 + v.toNat % 4096 > 0x0FFF))
        (decide (hl.toNat + v.toNat > 0xFFFF)) } ∧
    exec (incR16 rr) s = .next ((s.fetched 1).setR16 rr (BitVec.ofNat 16 (v.toNat + 1))) ∧
    exec (decR16 rr) s = .next ((s.fetched 1).setR16 rr (BitVec.ofNat 16 (v.toNat + 65535)))

/-- ADD SP,e and LD HL,SP+e: SP plus the signed byte, with H and C from the unsigned low-byte sum, Z = N = 0 (stated: R233,
R234). -/
def Obligations.StackPointerPlusDisplacement : Prop :=
  ∀ (s : State) (e : Byte),
    let sum : Word := BitVec.ofInt 16 ((s.sp.toNat : Int) + signed8 e)
    let flags : Byte := packF false false (decide (s.sp.toNat % 16 + e.toNat % 16 > 0x0F))
      (decide (s.sp.toNat % 256 + e.toNat > 0xFF))
    encode (.add_SP_e e) = [0xE8, e] ∧ encode (.ld_HL_SPe e) = [0xF8, e] ∧
    cycles (.add_SP_e e) s = 4 ∧ cycles (.ld_HL_SPe e) s = 3 ∧
    exec (.add_SP_e e) s = .next { s.fetched 2 with sp := sum, f := flags } ∧
    exec (.ld_HL_SPe e) s = .next { s.fetched 2 with h := hi sum, l := lo sum, f := flags }

/-- RLCA, RRCA, RLA, RRA as arithmetic on A and the carry; Z, N and H are cleared whatever the result (stated: R250, R251,
R252, R253). -/
def Obligations.AccumulatorRotates : Prop :=
  ∀ s : State,
    let a := s.a.toNat
    let cin : Nat := if s.f.getLsbD 4 then 1 else 0
    let result (v : Nat) (c : Bool) : State := { s.fetched 1 with a := BitVec.ofNat 8 v, f := packF false false false c }
    (encode .rlca = [0x07] ∧ encode .rrca = [0x0F] ∧ encode .rla = [0x17] ∧ encode .rra = [0x1F]) ∧
    (cycles .rlca s = 1 ∧ cycles .rrca s = 1 ∧ cycles .rla s = 1 ∧ cycles .rra s = 1) ∧
    exec .rlca s = .next (result (2 * a % 256 + a / 128) (decide (128 ≤ a))) ∧
    exec .rrca s = .next (result (a / 2 + 128 * (a % 2)) (decide (a % 2 = 1))) ∧
    exec .rla s = .next (result (2 * a % 256 + cin) (decide (128 ≤ a))) ∧
    exec .rra s = .next (result (a / 2 + 128 * cin) (decide (a % 2 = 1)))

/-- RLC RRC RL RR SLA SRA SWAP SRL on every operand, as arithmetic on the operand and the carry, with their flags (stated:
R255, R256, R257, R258, R259, R260, R261, R262). -/
def Obligations.PrefixedRotatesAndShifts : Prop :=
  ∀ (s : State) (z : Nat), z < 8 →
    let o := R8.ofIndex z
    let v := (s.getR8 o).toNat
    let cin : Nat := if s.f.getLsbD 4 then 1 else 0
    let result (w : Nat) (c : Bool) : State :=
      { (s.fetched 2).setR8 o (BitVec.ofNat 8 w) with f := packF (decide (w = 0)) false false c }
    (∀ y, y < 8 → encode (rotR8 (RotOp.ofIndex y) o) = [0xCB, BitVec.ofNat 8 (8 * y + z)] ∧
      cycles (rotR8 (RotOp.ofIndex y) o) s = (if z = 6 then 4 else 2)) ∧
    exec (rotR8 .rlc o) s = .next (result (2 * v % 256 + v / 128) (decide (128 ≤ v))) ∧
    exec (rotR8 .rrc o) s = .next (result (v / 2 + 128 * (v % 2)) (decide (v % 2 = 1))) ∧
    exec (rotR8 .rl o) s = .next (result (2 * v % 256 + cin) (decide (128 ≤ v))) ∧
    exec (rotR8 .rr o) s = .next (result (v / 2 + 128 * cin) (decide (v % 2 = 1))) ∧
    exec (rotR8 .sla o) s = .next (result (2 * v % 256) (decide (128 ≤ v))) ∧
    exec (rotR8 .sra o) s = .next (result (v / 2 + 128 * (v / 128)) (decide (v % 2 = 1))) ∧
    exec (rotR8 .swap o) s = .next (result (16 * v % 256 + v / 16) false) ∧
    exec (rotR8 .srl o) s = .next (result (v / 2) (decide (v % 2 = 1)))

/-- BIT b sets Z from the complement of bit b and keeps C; RES b and SET b clear and set bit b with no flag changed (stated:
R263, R264, R265). -/
def Obligations.BitTestResetAndSet : Prop :=
  ∀ (s : State) (b z : Nat), b < 8 → z < 8 →
    let o := R8.ofIndex z
    let v := (s.getR8 o).toNat
    (encode (bitR8 b o) = [0xCB, BitVec.ofNat 8 (0x40 + 8 * b + z)] ∧
      encode (resR8 b o) = [0xCB, BitVec.ofNat 8 (0x80 + 8 * b + z)] ∧
      encode (setR8 b o) = [0xCB, BitVec.ofNat 8 (0xC0 + 8 * b + z)]) ∧
    (cycles (bitR8 b o) s = (if z = 6 then 3 else 2) ∧ cycles (resR8 b o) s = (if z = 6 then 4 else 2) ∧
      cycles (setR8 b o) s = (if z = 6 then 4 else 2)) ∧
    exec (bitR8 b o) s = .next { s.fetched 2 with f := packF (decide (v / 2 ^ b % 2 = 0)) false true (s.f.getLsbD 4) } ∧
    exec (resR8 b o) s = .next ((s.fetched 2).setR8 o (BitVec.ofNat 8 (v - v / 2 ^ b % 2 * 2 ^ b))) ∧
    exec (setR8 b o) s = .next ((s.fetched 2).setR8 o (BitVec.ofNat 8 (v + (1 - v / 2 ^ b % 2) * 2 ^ b)))

/-- The prefix row has, by the model's reading (log 7, DEDUCED; no rule of the spec), the meaning of the instruction its
second byte selects (derived: 30_encoding.md R103, 30_encoding.md R115, 30_encoding.md R118). -/
def Obligations.PrefixRowRunsTheSecondPage : Prop :=
  ∀ (op2 : Byte) (s : State), exec (.prefix_CB op2) s = exec (decodeCb op2) s ∧
    encode (.prefix_CB op2) = encode (decodeCb op2) ∧ ∃ t, exec (.prefix_CB op2) s = .next t

/-- NZ, Z, NC, C read the flags at the start; the immediate is fetched either way, so PC moves past the whole instruction
(stated: R290). -/
def Obligations.ConditionsReadTheFlags : Prop :=
  ∀ (s : State) (cc : Cond) (e : Byte) (nn : Word),
    (s.cond .NZ = !s.f.getLsbD 7) ∧ (s.cond .Z = s.f.getLsbD 7) ∧ (s.cond .NC = !s.f.getLsbD 4) ∧
    (s.cond .C = s.f.getLsbD 4) ∧
    (s.cond cc = false →
      exec (jrCond cc e) s = .next (s.fetched 2) ∧ exec (jpCond cc nn) s = .next (s.fetched 3) ∧
      exec (callCond cc nn) s = .next (s.fetched 3) ∧ exec (retCond cc) s = .next (s.fetched 1))

/-- JP nn, JP cc, JP HL and JR, JR cc: encoding, cycles, and PC set to the target if the condition holds (stated: R291, R292,
R293, R294, R295). -/
def Obligations.JumpsAbsoluteAndRelative : Prop :=
  ∀ (s : State) (cc : Cond) (e : Byte) (nn : Word),
    (encode (.jp_nn nn) = [0xC3, lo nn, hi nn] ∧ encode .jp_HL = [0xE9] ∧ encode (.jr_e e) = [0x18, e] ∧
      encode (.jp_NZ_nn nn) = [0xC2, lo nn, hi nn] ∧ encode (.jp_Z_nn nn) = [0xCA, lo nn, hi nn] ∧
      encode (.jp_NC_nn nn) = [0xD2, lo nn, hi nn] ∧ encode (.jp_C_nn nn) = [0xDA, lo nn, hi nn] ∧
      encode (.jr_NZ_e e) = [0x20, e] ∧ encode (.jr_Z_e e) = [0x28, e] ∧ encode (.jr_NC_e e) = [0x30, e] ∧
      encode (.jr_C_e e) = [0x38, e]) ∧
    (cycles (.jp_nn nn) s = 4 ∧ cycles .jp_HL s = 1 ∧ cycles (.jr_e e) s = 3 ∧
      cycles (jpCond cc nn) s = (if s.cond cc then 4 else 3) ∧ cycles (jrCond cc e) s = (if s.cond cc then 3 else 2)) ∧
    exec (.jp_nn nn) s = .next { s.fetched 3 with pc := nn } ∧
    exec .jp_HL s = .next { s.fetched 1 with pc := join s.h s.l } ∧
    exec (.jr_e e) s = .next { s.fetched 2 with pc := (s.fetched 2).pc + sext16 e } ∧
    (s.haltBug = false → (s.fetched 2).pc + sext16 e = BitVec.ofInt 16 ((s.pc.toNat : Int) + 2 + signed8 e)) ∧
    exec (jpCond cc nn) s = .next (if s.cond cc then { s.fetched 3 with pc := nn } else s.fetched 3) ∧
    exec (jrCond cc e) s =
      .next (if s.cond cc then { s.fetched 2 with pc := (s.fetched 2).pc + sext16 e } else s.fetched 2)

/-- CALL, CALL cc and RST push the address of the next instruction and jump; not taken, nothing is pushed (stated: R296,
R297, R301). -/
def Obligations.CallsAndRestarts : Prop :=
  ∀ (s : State) (cc : Cond) (nn : Word) (y : Nat), y < 8 →
    let called (k : Nat) (target : Word) : State :=
      { ((s.fetched k).write (s.sp - 1) (hi (s.fetched k).pc)).write (s.sp - 2) (lo (s.fetched k).pc) with
        sp := s.sp - 2, pc := target }
    (encode (.call_nn nn) = [0xCD, lo nn, hi nn] ∧ encode (.call_NZ_nn nn) = [0xC4, lo nn, hi nn] ∧
      encode (.call_Z_nn nn) = [0xCC, lo nn, hi nn] ∧ encode (.call_NC_nn nn) = [0xD4, lo nn, hi nn] ∧
      encode (.call_C_nn nn) = [0xDC, lo nn, hi nn] ∧ encode (rstTo y) = [BitVec.ofNat 8 (0xC7 + 8 * y)]) ∧
    (cycles (.call_nn nn) s = 6 ∧ cycles (callCond cc nn) s = (if s.cond cc then 6 else 3) ∧ cycles (rstTo y) s = 4) ∧
    exec (.call_nn nn) s = .next (called 3 nn) ∧
    exec (callCond cc nn) s = .next (if s.cond cc then called 3 nn else s.fetched 3) ∧
    exec (rstTo y) s = .next (called 1 (BitVec.ofNat 16 (8 * y)))

/-- RET, RET cc and RETI pop PC, low byte first; RETI also sets IME at once and restores nothing else (stated: R298, R299,
R300). -/
def Obligations.ReturnsFromCallsAndInterrupts : Prop :=
  ∀ (s : State) (cc : Cond),
    let returned : State := { s.fetched 1 with pc := join (s.read (s.sp + 1)) (s.read s.sp), sp := s.sp + 2 }
    (encode .ret = [0xC9] ∧ encode .ret_NZ = [0xC0] ∧ encode .ret_Z = [0xC8] ∧ encode .ret_NC = [0xD0] ∧
      encode .ret_C = [0xD8] ∧ encode .reti = [0xD9]) ∧
    (cycles .ret s = 4 ∧ cycles .reti s = 4 ∧ cycles (retCond cc) s = (if s.cond cc then 5 else 2)) ∧
    exec .ret s = .next returned ∧
    exec (retCond cc) s = .next (if s.cond cc then returned else s.fetched 1) ∧
    exec .reti s = .next { returned with ime := true } ∧
    { returned with ime := true }.dispatchDue = decide (s.pending ≠ 0)

/-- NOP changes nothing, STOP stops whatever the interrupt state and pad byte, DI clears IME and its delay, EI arms the delay
(stated: R320, R322, R323, R324). -/
def Obligations.NopStopDiEi : Prop :=
  ∀ (s : State) (pad : Byte),
    (encode .nop = [0x00] ∧ encode (.stop pad) = [0x10, pad] ∧ encode .di = [0xF3] ∧ encode .ei = [0xFB]) ∧
    (cycles .nop s = 1 ∧ cycles (.stop pad) s = 1 ∧ cycles .di s = 1 ∧ cycles .ei s = 1) ∧
    exec .nop s = .next (s.fetched 1) ∧
    exec (.stop pad) s = .next { s.fetched 2 with mode := .stopped } ∧
    exec .di s = .next { s.fetched 1 with ime := false, imePending := false } ∧
    exec .ei s = .next { s.fetched 1 with imePending := true }

/-- HALT halts with nothing pending; with something pending it arms the halt bug if IME = 0 and does nothing if IME = 1
(stated: R321). -/
def Obligations.HaltInItsThreeCases : Prop :=
  ∀ s : State,
    encode .halt = [0x76] ∧ cycles .halt s = 1 ∧
    (s.ie.setWidth 5 &&& s.iflag = 0 → exec .halt s = .next { s.fetched 1 with mode := .halted }) ∧
    (s.ie.setWidth 5 &&& s.iflag ≠ 0 → s.ime = false →
      exec .halt s = .next { s.fetched 1 with haltBug := true } ∧
      ({ s.fetched 1 with haltBug := true } : State).fetch8 = (s.read (s.fetched 1).pc, s.fetched 1)) ∧
    (s.ie.setWidth 5 &&& s.iflag ≠ 0 → s.ime = true →
      exec .halt s = .next (s.fetched 1) ∧ (s.fetched 1).dispatchDue = true)

/-- Frame of the forms that store nothing: only the named registers and flags change, and no byte of memory (derived:
10_state.md R26, 40_load8.md, 41_load16_stack.md, 42_alu8.md, 43_alu16.md, 44_rotate_shift_bit.md). -/
def Obligations.RegisterFormsChangeOnlyTheirDestination : Prop :=
  ∀ s t : State,
    (∀ d r : R8, d ≠ .mHL → exec (ldR8R8 d r) s = .next t → Frame [d] false 0 [] s t ∧ SameControl s t) ∧
    (∀ (d : R8) (n : Byte), d ≠ .mHL → exec (ldR8Imm d n) s = .next t → Frame [d] false 0 [] s t ∧ SameControl s t) ∧
    (∀ p : R16Mem, exec (loadAMem p) s = .next t →
      Frame (if p = .BC ∨ p = .DE then [.A] else [.A, .H, .L]) false 0 [] s t ∧ SameControl s t) ∧
    (∀ (nn : Word) (n : Byte), exec (.ld_A_mnn nn) s = .next t ∨ exec .ldh_A_mC s = .next t ∨ exec (.ldh_A_mn n) s = .next t →
      Frame [.A] false 0 [] s t ∧ SameControl s t) ∧
    (∀ (p : R16) (nn : Word),
      exec (ldR16Imm p nn) s = .next t ∨ exec (incR16 p) s = .next t ∨ exec (decR16 p) s = .next t →
      Frame (match p with | .BC => [.B, .C] | .DE => [.D, .E] | .HL => [.H, .L] | .SP => []) (decide (p = .SP)) 0 [] s t ∧
        SameControl s t) ∧
    (exec .ld_SP_HL s = .next t → Frame [] true 0 [] s t ∧ SameControl s t) ∧
    (∀ (op : AluOp) (r : R8) (n : Byte), exec (aluR8 op r) s = .next t ∨ exec (aluImm op n) s = .next t →
      Frame (if op = .cp then [] else [.A]) false 0xF0 [] s t ∧ SameControl s t) ∧
    (∀ d : R8, d ≠ .mHL → exec (incR8 d) s = .next t ∨ exec (decR8 d) s = .next t →
      Frame [d] false 0xE0 [] s t ∧ SameControl s t) ∧
    (exec .daa s = .next t → Frame [.A] false 0xB0 [] s t ∧ SameControl s t) ∧
    (exec .cpl s = .next t → Frame [.A] false 0x60 [] s t ∧ SameControl s t) ∧
    (exec .scf s = .next t ∨ exec .ccf s = .next t → Frame [] false 0x70 [] s t ∧ SameControl s t) ∧
    (exec .rlca s = .next t ∨ exec .rrca s = .next t ∨ exec .rla s = .next t ∨ exec .rra s = .next t →
      Frame [.A] false 0xF0 [] s t ∧ SameControl s t) ∧
    (∀ p : R16, exec (addHlR16 p) s = .next t → Frame [.H, .L] false 0x70 [] s t ∧ SameControl s t) ∧
    (∀ e : Byte, exec (.add_SP_e e) s = .next t → Frame [] true 0xF0 [] s t ∧ SameControl s t) ∧
    (∀ e : Byte, exec (.ld_HL_SPe e) s = .next t → Frame [.H, .L] false 0xF0 [] s t ∧ SameControl s t) ∧
    (∀ (op : RotOp) (o : R8), o ≠ .mHL → exec (rotR8 op o) s = .next t → Frame [o] false 0xF0 [] s t ∧ SameControl s t) ∧
    (∀ (b : Nat) (o : R8), exec (bitR8 b o) s = .next t → Frame [] false 0xE0 [] s t ∧ SameControl s t) ∧
    (∀ (b : Nat) (o : R8), o ≠ .mHL → exec (resR8 b o) s = .next t ∨ exec (setR8 b o) s = .next t →
      Frame [o] false 0 [] s t ∧ SameControl s t)

/-- Frame of the forms that store one byte: the byte at the computed address, HL for HL+ and HL-, and the named flags
(derived: 10_state.md R26, 20_memory.md R69, 20_memory.md R74, 40_load8.md R142, 40_load8.md R157, 42_alu8.md R200,
44_rotate_shift_bit.md R254). -/
def Obligations.StoringFormsChangeOnlyTheStoredByte : Prop :=
  ∀ s t : State, s.memWf →
    (∀ r : R8, r ≠ .mHL → exec (ldR8R8 .mHL r) s = .next t →
      Frame [] false 0 [(s.hl, s.getR8 r)] s t ∧ SameControl s t) ∧
    (∀ n : Byte, exec (.ld_mHL_n n) s = .next t → Frame [] false 0 [(s.hl, n)] s t ∧ SameControl s t) ∧
    (∀ p : R16Mem, exec (storeAMem p) s = .next t →
      Frame (if p = .BC ∨ p = .DE then [] else [.H, .L]) false 0 [(s.memAddr p, s.a)] s t ∧ SameControl s t) ∧
    (∀ nn : Word, exec (.ld_mnn_A nn) s = .next t → Frame [] false 0 [(nn, s.a)] s t ∧ SameControl s t) ∧
    (exec .ldh_mC_A s = .next t → Frame [] false 0 [(highPage s.c, s.a)] s t ∧ SameControl s t) ∧
    (∀ n : Byte, exec (.ldh_mn_A n) s = .next t → Frame [] false 0 [(highPage n, s.a)] s t ∧ SameControl s t) ∧
    (exec .inc_mHL s = .next t → Frame [] false 0xE0 [(s.hl, s.read s.hl + 1)] s t ∧ SameControl s t) ∧
    (exec .dec_mHL s = .next t → Frame [] false 0xE0 [(s.hl, s.read s.hl - 1)] s t ∧ SameControl s t) ∧
    (∀ op : RotOp, exec (rotR8 op .mHL) s = .next t →
      Frame [] false 0xF0 [(s.hl, rotValue op (s.read s.hl) s.cf)] s t ∧ SameControl s t) ∧
    (∀ b : Nat, b < 8 → exec (resR8 b .mHL) s = .next t →
      Frame [] false 0 [(s.hl, s.read s.hl &&& ~~~((1 : Byte) <<< b))] s t ∧ SameControl s t) ∧
    (∀ b : Nat, b < 8 → exec (setR8 b .mHL) s = .next t →
      Frame [] false 0 [(s.hl, s.read s.hl ||| ((1 : Byte) <<< b))] s t ∧ SameControl s t)

/-- Frame of the stack and control-transfer forms: SP and PC, the popped registers, and the two bytes a push stores (derived:
00_scope.md R13, 41_load16_stack.md R171, 41_load16_stack.md R173, 41_load16_stack.md R174, 45_control_flow.md). -/
def Obligations.StackAndTransferFormsFrame : Prop :=
  ∀ s t : State, s.memWf →
    (∀ p : R16Stk, exec (pushR16 p) s = .next t →
      Frame [] true 0 [(s.sp - 1, hi (s.getStk p)), (s.sp - 2, lo (s.getStk p))] s t ∧ SameControl s t) ∧
    (∀ nn : Word, exec (.call_nn nn) s = .next t →
      Frame [] true 0 [(s.sp - 1, hi (s.fetched 3).pc), (s.sp - 2, lo (s.fetched 3).pc)] s t ∧ SameControl s t) ∧
    (∀ (cc : Cond) (nn : Word), exec (callCond cc nn) s = .next t →
      (if s.cond cc then Frame [] true 0 [(s.sp - 1, hi (s.fetched 3).pc), (s.sp - 2, lo (s.fetched 3).pc)] s t
        else Frame [] false 0 [] s t) ∧ SameControl s t) ∧
    (∀ y : Nat, exec (rstTo y) s = .next t →
      Frame [] true 0 [(s.sp - 1, hi (s.fetched 1).pc), (s.sp - 2, lo (s.fetched 1).pc)] s t ∧ SameControl s t) ∧
    (∀ nn : Word, exec (.ld_mnn_SP nn) s = .next t →
      Frame [] false 0 [(nn, lo s.sp), (nn + 1, hi s.sp)] s t ∧ SameControl s t) ∧
    (∀ p : R16Stk, exec (popR16 p) s = .next t →
      Frame (match p with | .BC => [.B, .C] | .DE => [.D, .E] | .HL => [.H, .L] | .AF => [.A]) true
        (if p = .AF then 0xF0 else 0) [] s t ∧ SameControl s t) ∧
    (exec .ret s = .next t → Frame [] true 0 [] s t ∧ SameControl s t) ∧
    (∀ cc : Cond, exec (retCond cc) s = .next t → Frame [] (s.cond cc) 0 [] s t ∧ SameControl s t) ∧
    (exec .reti s = .next t → Frame [] true 0 [] s t) ∧
    (∀ (cc : Cond) (e : Byte) (nn : Word), exec (.jp_nn nn) s = .next t ∨ exec .jp_HL s = .next t ∨
      exec (.jr_e e) s = .next t ∨ exec (jpCond cc nn) s = .next t ∨ exec (jrCond cc e) s = .next t →
      Frame [] false 0 [] s t ∧ SameControl s t) ∧
    (∀ pad : Byte, exec .nop s = .next t ∨ exec .halt s = .next t ∨ exec (.stop pad) s = .next t ∨ exec .di s = .next t ∨
      exec .ei s = .next t → Frame [] false 0 [] s t)

/-- Every well-formed instruction completes in every state; it never writes the ROM arrays or maps the boot ROM (derived:
20_memory.md R60, 60_exceptions.md R410, 60_exceptions.md R430). -/
def Obligations.EveryInstructionCompletesInEveryState : Prop :=
  ∀ (i : Instr) (s : State), i.WellFormed → ∃ t : State, exec i s = .next t ∧ t.mem.rom = s.mem.rom ∧
    t.mem.boot = s.mem.boot ∧ t.inputs = s.inputs ∧ (t.bootMapped = true → s.bootMapped = true)

/-- Every step keeps: the low nibble of F 0, an armed halt bug only in Running with IME and its delay 0, memory canonical
(derived: 10_state.md R21, 10_state.md R33, 10_state.md R34). -/
def Obligations.StepKeepsTheInvariant : Prop :=
  ∀ s t : State, s.Inv → step s = .next t → t.Inv

/-- The reset state has the invariant every step keeps (derived: 10_state.md R21, 10_state.md R33, 10_state.md R38). -/
def Obligations.ResetSatisfiesTheInvariant : Prop :=
  State.reset.Inv

/-- No run changes the cartridge or boot ROM, or maps the boot ROM again once it is off (derived: 10_state.md R32,
10_state.md R34, 48_host_interface.md R370). -/
def Obligations.ReachableStatesKeepTheReadOnlyArrays : Prop :=
  ∀ s t : State, Reaches s t → t.mem.rom = s.mem.rom ∧ t.mem.boot = s.mem.boot ∧
    (s.bootMapped = false → t.bootMapped = false) ∧ (s.Inv → t.Inv)

/-- The mode changes only by HALT with nothing pending, STOP, a pending request in Halted and wake_in in Stopped (stated:
R403). -/
def Obligations.ModeStateMachine : Prop :=
  (∀ (i : Instr) (s t : State), s.mode = .running → exec i s = .next t →
    (i = .halt → s.pending = 0 → t.mode = .halted) ∧
    (i = .halt → s.pending ≠ 0 → t.mode = .running ∧ t.haltBug = !s.ime) ∧
    (∀ pad, i = .stop pad → t.mode = .stopped) ∧
    (i ≠ .halt → (∀ pad, i ≠ .stop pad) → t.mode = .running)) ∧
  (∀ s : State, s.dispatch.mode = s.mode) ∧
  (∀ (s : State) (irq : BitVec 5) (wake : Bool), s.mode = .halted →
    ((s.latch irq).pending ≠ 0 → (s.latch irq).wakeUp wake = some { s.latch irq with mode := .running }) ∧
    ((s.latch irq).pending = 0 → (s.latch irq).wakeUp wake = none ∧ (s.latch irq).mode = .halted)) ∧
  (∀ (s : State) (irq : BitVec 5), s.mode = .stopped →
    (s.latch irq).wakeUp true = some { s.latch irq with mode := .running } ∧
    (s.latch irq).wakeUp false = none ∧ (s.latch irq).mode = .stopped)

/-- IME is written by DI and RETI only, ime_pending by DI and EI only, and only HALT can leave the halt bug armed (derived:
10_state.md R28, 10_state.md R29, 10_state.md R33). -/
def Obligations.OnlyNamedInstructionsWriteTheControlBits : Prop :=
  ∀ (i : Instr) (s t : State), exec i s = .next t →
    (i ≠ .di → i ≠ .reti → t.ime = s.ime) ∧ (i ≠ .di → i ≠ .ei → t.imePending = s.imePending) ∧
    (i ≠ .halt → t.haltBug = false)

/-- A step that answers returns 1 to 11 M-cycles: 1 if it is an idle one, at most 6 if it dispatches no interrupt, 6 to 11 if
it does (derived: 60_exceptions.md R401, 60_exceptions.md R402, 60_exceptions.md R404, 60_exceptions.md R406,
70_reset_and_hazards.md R471). -/
def Obligations.StepCyclesWithinBounds : Prop :=
  ∀ (inp : StepInput) (s t : State) (n : Nat), stepWith inp s = .next (t, n) →
    1 ≤ n ∧ n ≤ 11 ∧
    ((s.latch inp.irq).wakeUp inp.wake = none → n = 1) ∧
    (∀ s1, (s.latch inp.irq).wakeUp inp.wake = some s1 →
      (s1.dispatchDue = false → n ≤ 6) ∧ (s1.dispatchDue = true → 6 ≤ n))

/-- A tick answers iff steps reach 17556 M-cycles: it makes steps until then, spends at most 10 more, snapshots once, reports
completion (log 12: inputs) (derived: 48_host_interface.md R377, 60_exceptions.md R406). -/
def Obligations.TickSpendsItsCycleBudget : Prop :=
  ∀ (completion : State → Bool) (sink : Bool) (s : State),
    (∀ r : TickResult, tick completion sink s = .next r ↔
      ∃ (steps total n : Nat) (u t : State), RunsTimed s steps total u ∧ total < 17556 ∧
        stepTimed u = .next (t, n) ∧ 17556 ≤ total + n ∧
        r = { state := t, snapshot := if sink then some (encodeSnapshot t) else none, completed := completion t }) ∧
    (∀ (steps total n : Nat) (u t : State), RunsTimed s steps total u → total < 17556 → stepTimed u = .next (t, n) →
      17556 ≤ total + n → total + n ≤ 17566 ∧ steps + 1 ≤ 17556)

/-- The default completion predicate holds iff the core runs and JR -2 stands at PC; a plain step then changes nothing
(derived: 48_host_interface.md R379, 45_control_flow.md R294). -/
def Obligations.DefaultCompletionIsAJumpToItself : Prop :=
  ∀ s : State,
    (completionDefault s = true ↔ s.mode = .running ∧ s.read s.pc = 0x18 ∧ s.read (s.pc + 1) = 0xFE) ∧
    (completionDefault s = true → s.inputs = [] → (s.ime = false ∨ s.pending = 0) → s.imePending = false →
      s.haltBug = false → step s = .next s)

/-- decode(encode(s)) = s for every state whose F has a clean low nibble (the host's input queue, no state of the spec, is
empty) (derived: 47_snapshot_codec.md R345, 47_snapshot_codec.md R346, 47_snapshot_codec.md R348). -/
def Obligations.SnapshotOfAStateDecodesToIt : Prop :=
  ∀ s : State, s.flagsClean → s.memWf → decodeSnapshot (encodeSnapshot s) = .ok { s with inputs := [] }

/-- encode(decode(b)) = b for every byte string the decoder accepts, and the decoded state is a proper one (derived:
47_snapshot_codec.md R346, 47_snapshot_codec.md R347, 47_snapshot_codec.md R348). -/
def Obligations.AcceptedSnapshotEncodesBack : Prop :=
  ∀ (bs : List Byte) (s : State), decodeSnapshot bs = .ok s →
    encodeSnapshot s = bs ∧ s.flagsClean ∧ s.memWf ∧ s.inputs = []

/-- A snapshot has 65807 bytes: the registers, the interrupt and mode bytes, the memory image at 15 and the boot ROM at 65551
(stated: R342, R343, R344). -/
def Obligations.SnapshotLayout : Prop :=
  ∀ s : State,
    let bs := encodeSnapshot s
    bs.length = 65807 ∧
    bs.take 14 = [s.a, s.b, s.c, s.d, s.e, s.h, s.l, lo s.sp, hi s.sp, lo s.pc, hi s.pc, s.f, s.ie,
      0xE0 ||| s.iflag.setWidth 8] ∧
    (bs.getD 14 0).toNat % 4 = (match s.mode with | .running => 0 | .halted => 1 | .stopped => 2) ∧
    (bs.getD 14 0).getLsbD 2 = s.ime ∧ (bs.getD 14 0).getLsbD 3 = s.imePending ∧ (bs.getD 14 0).getLsbD 4 = s.haltBug ∧
    (bs.getD 14 0).getLsbD 5 = s.bootMapped ∧ (bs.getD 14 0).getLsbD 6 = false ∧ (bs.getD 14 0).getLsbD 7 = false ∧
    (∀ a : Word, a.toNat < 0x8000 → bs.getD (15 + a.toNat) 0 = s.mem.get .rom a.toNat) ∧
    (∀ a : Word, 0x8000 ≤ a.toNat → bs.getD (15 + a.toNat) 0 = s.read a) ∧
    (∀ i, i < 256 → bs.getD (65551 + i) 0 = s.mem.get .boot i)

/-- decode fails with CorruptSnapshot exactly when one of the nine checks fails (stated: R347). -/
def Obligations.CorruptSnapshotsAreRefused : Prop :=
  ∀ bs : List Byte, decodeSnapshot bs = .error .corruptSnapshot ↔
    bs.length ≠ 65807 ∨ bs.getD 11 0 &&& 0x0F ≠ 0 ∨ (bs.getD 14 0).toNat % 4 = 3 ∨ bs.getD 14 0 &&& 0xC0 ≠ 0 ∨
    bs.getD 13 0 &&& 0xE0 ≠ 0xE0 ∨ bs.getD (15 + 0xFF0F) 0 ≠ bs.getD 13 0 ∨ bs.getD (15 + 0xFFFF) 0 ≠ bs.getD 12 0 ∨
    (∃ a, ((0xA000 ≤ a ∧ a < 0xC000) ∨ (0xFEA0 ≤ a ∧ a < 0xFF00)) ∧ bs.getD (15 + a) 0 ≠ 0xFF) ∨
    (∃ a, 0xE000 ≤ a ∧ a < 0xFE00 ∧ bs.getD (15 + a) 0 ≠ bs.getD (15 + a - 0x2000) 0)

/-- What each call on an instance does and when it is allowed; others answer none, a faulting tick keeps its last good state
(DESIGN CHOICE: logs 13, 12) (derived: 48_host_interface.md R376, 48_host_interface.md R377, 48_host_interface.md R378,
48_host_interface.md R380, 48_host_interface.md R382, 48_host_interface.md R383, 60_exceptions.md R410, 46_system.md R326).
-/
def Obligations.HostCallsOnAnInstance : Prop :=
  ∀ (completion : State → Bool) (inst : Instance),
    (∀ c : Call, inst.call completion c = none ↔
      inst.released = true ∨ (inst.faulted = true ∧ ((∃ inp, c = .step inp) ∨ ∃ sink, c = .tick sink))) ∧
    (inst.released = false →
      inst.call completion .encode = some (.snapshot (encodeSnapshot inst.state), inst) ∧
      inst.call completion .setSpeed = some (.done, inst) ∧
      inst.call completion .stop = some (.done, { inst with released := true }) ∧
      (∀ c : Call, { inst with released := true }.call completion c = none)) ∧
    (inst.released = false → inst.faulted = false →
      (∀ inp t n, stepWith inp inst.state = .next (t, n) →
        inst.call completion (.step inp) = some (.cycles n, { inst with state := t })) ∧
      (∀ inp r, stepWith inp inst.state = .fault r →
        inst.call completion (.step inp) = some (.fault r, { inst with faulted := true })) ∧
      (∀ sink r, tick completion sink inst.state = .next r →
        inst.call completion (.tick sink) = some (.ticked r.completed r.snapshot, { inst with state := r.state })) ∧
      (∀ sink r, tick completion sink inst.state = .fault r →
        ∃ u : State, inst.call completion (.tick sink) = some (.fault r, { inst with state := u, faulted := true }) ∧
          Reaches inst.state u ∧ step u = .fault r))
end

