-- ==== Sys2Proof/Laws/Memory.lean ====
section
/-! SUPPORT. The laws of the byte arrays: reading after writing, the canonical form, and its uniqueness. -/

namespace Sys2Proof.Machine

/-! ## One array -/

theorem Cells.wfFrom_mono {dflt : Byte} {size lo lo' : Nat} {cs : Cells} (h : Cells.wfFrom dflt size lo cs = true)
    (hle : lo' ≤ lo) : Cells.wfFrom dflt size lo' cs = true := by
  cases cs with
  | nil => rfl
  | cons p rest =>
    obtain ⟨k, w⟩ := p
    simp only [Cells.wfFrom, Bool.and_eq_true, decide_eq_true_eq] at h ⊢
    exact ⟨⟨⟨by omega, h.1.1.2⟩, h.1.2⟩, h.2⟩

/-- Below the first listed index an array reads its default. -/
theorem Cells.get_below {dflt : Byte} {size lo i : Nat} {cs : Cells} (h : Cells.wfFrom dflt size lo cs = true)
    (hi : i < lo) : Cells.get dflt cs i = dflt := by
  cases cs with
  | nil => rfl
  | cons p rest =>
    obtain ⟨k, w⟩ := p
    simp only [Cells.wfFrom, Bool.and_eq_true, decide_eq_true_eq] at h
    have : i < k := by omega
    simp [Cells.get, this]

/-- Beyond its size an array reads its default. -/
theorem Cells.get_beyond {dflt : Byte} {size lo i : Nat} {cs : Cells} (h : Cells.wfFrom dflt size lo cs = true)
    (hi : size ≤ i) : Cells.get dflt cs i = dflt := by
  induction cs generalizing lo with
  | nil => rfl
  | cons p rest ih =>
    obtain ⟨k, w⟩ := p
    simp only [Cells.wfFrom, Bool.and_eq_true, decide_eq_true_eq] at h
    have h1 : ¬ i < k := by omega
    have h2 : ¬ i = k := by omega
    simp [Cells.get, h1, h2, ih h.2]

/-- A written byte reads back. -/
theorem Cells.get_put_self {dflt : Byte} {size lo i : Nat} {v : Byte} {cs : Cells}
    (h : Cells.wfFrom dflt size lo cs = true) : Cells.get dflt (Cells.put dflt cs i v) i = v := by
  induction cs generalizing lo with
  | nil => simp only [Cells.put]; split <;> simp_all [Cells.get]
  | cons p rest ih =>
    obtain ⟨k, w⟩ := p
    simp only [Cells.wfFrom, Bool.and_eq_true, decide_eq_true_eq] at h
    simp only [Cells.put]
    split
    · rename_i hlt
      split <;> simp_all [Cells.get]
    · split
      · rename_i hlt heq
        subst heq
        split
        · rename_i hv
          rw [hv]; exact Cells.get_below h.2 (Nat.lt_succ_self _)
        · simp [Cells.get]
      · rename_i hlt hne
        simp [Cells.get, hlt, hne, ih h.2]

/-- A write leaves every other byte alone. -/
theorem Cells.get_put_ne {dflt : Byte} {size lo i j : Nat} {v : Byte} {cs : Cells}
    (h : Cells.wfFrom dflt size lo cs = true) (hij : j ≠ i) :
    Cells.get dflt (Cells.put dflt cs i v) j = Cells.get dflt cs j := by
  induction cs generalizing lo with
  | nil => simp only [Cells.put]; split <;> simp_all [Cells.get]
  | cons p rest ih =>
    obtain ⟨k, w⟩ := p
    simp only [Cells.wfFrom, Bool.and_eq_true, decide_eq_true_eq] at h
    simp only [Cells.put]
    split
    · rename_i hlt
      split
      · rfl
      · by_cases h1 : j < i
        · have : j < k := by omega
          simp [Cells.get, h1, this]
        · simp [Cells.get, h1, hij]
    · split
      · rename_i hlt heq
        subst heq
        split
        · by_cases h1 : j < i
          · simp [Cells.get, h1, Cells.get_below h.2 (show j < i + 1 by omega)]
          · simp [Cells.get, h1, hij]
        · simp [Cells.get, hij]
      · simp [Cells.get, ih h.2]

/-- A write inside the array keeps the canonical form. -/
theorem Cells.wfFrom_put {dflt : Byte} {size lo i : Nat} {v : Byte} {cs : Cells}
    (h : Cells.wfFrom dflt size lo cs = true) (hlo : lo ≤ i) (hi : i < size) :
    Cells.wfFrom dflt size lo (Cells.put dflt cs i v) = true := by
  induction cs generalizing lo with
  | nil => simp only [Cells.put]; split <;> simp_all [Cells.wfFrom]
  | cons p rest ih =>
    obtain ⟨k, w⟩ := p
    have h' := h
    simp only [Cells.wfFrom, Bool.and_eq_true, decide_eq_true_eq] at h
    obtain ⟨⟨⟨h1, h2⟩, h3⟩, h4⟩ := h
    simp only [Cells.put]
    split
    · rename_i hlt
      split
      · exact h'
      · rename_i hv
        simp only [Cells.wfFrom, Bool.and_eq_true, decide_eq_true_eq]
        refine ⟨⟨⟨hlo, hi⟩, by simpa using hv⟩, ⟨⟨by omega, h2⟩, h3⟩, h4⟩
    · split
      · rename_i hlt heq
        subst heq
        split
        · exact Cells.wfFrom_mono h4 (by omega)
        · rename_i hv
          simp only [Cells.wfFrom, Bool.and_eq_true, decide_eq_true_eq]
          exact ⟨⟨⟨hlo, hi⟩, by simpa using hv⟩, h4⟩
      · simp only [Cells.wfFrom, Bool.and_eq_true, decide_eq_true_eq]
        exact ⟨⟨⟨h1, h2⟩, h3⟩, ih h4 (by omega)⟩

/-- Two canonical arrays that read alike are the same list. -/
theorem Cells.ext_of_get {dflt : Byte} {size lo : Nat} {cs ds : Cells} (hc : Cells.wfFrom dflt size lo cs = true)
    (hd : Cells.wfFrom dflt size lo ds = true) (h : ∀ i, Cells.get dflt cs i = Cells.get dflt ds i) : cs = ds := by
  induction cs generalizing lo ds with
  | nil =>
    cases ds with
    | nil => rfl
    | cons p rest =>
      obtain ⟨k, w⟩ := p
      simp only [Cells.wfFrom, Bool.and_eq_true, decide_eq_true_eq] at hd
      have := h k
      simp [Cells.get] at this
      simp [← this] at hd
  | cons p rest ih =>
    obtain ⟨k, w⟩ := p
    simp only [Cells.wfFrom, Bool.and_eq_true, decide_eq_true_eq] at hc
    cases ds with
    | nil =>
      have := h k
      simp [Cells.get] at this
      simp [this] at hc
    | cons q rest' =>
      obtain ⟨k', w'⟩ := q
      simp only [Cells.wfFrom, Bool.and_eq_true, decide_eq_true_eq] at hd
      have hk : k = k' := by
        rcases Nat.lt_trichotomy k k' with hlt | heq | hgt
        · have := h k
          simp [Cells.get, hlt] at this
          simp [this] at hc
        · exact heq
        · have := h k'
          simp [Cells.get, hgt] at this
          simp [← this] at hd
      subst hk
      have hw : w = w' := by simpa [Cells.get] using h k
      subst hw
      congr 1
      refine ih hc.2 hd.2 (fun i => ?_)
      rcases Nat.lt_or_ge k i with hlt | hge
      · have := h i
        have h1 : ¬ i < k := by omega
        have h2 : ¬ i = k := by omega
        simpa [Cells.get, h1, h2] using this
      · rw [Cells.get_below hc.2 (by omega), Cells.get_below hd.2 (by omega)]

/-! ## Arrays from byte lists and back -/

theorem Cells.wfFrom_ofBytes {dflt : Byte} {size lo : Nat} {bs : List Byte} (h : lo + bs.length ≤ size) :
    Cells.wfFrom dflt size lo (Cells.ofBytes dflt lo bs) = true := by
  induction bs generalizing lo with
  | nil => rfl
  | cons b rest ih =>
    simp only [List.length_cons] at h
    simp only [Cells.ofBytes]
    split
    · exact Cells.wfFrom_mono (ih (by omega)) (by omega)
    · rename_i hb
      simp only [Cells.wfFrom, Bool.and_eq_true, decide_eq_true_eq]
      exact ⟨⟨⟨Nat.le_refl _, by omega⟩, by simpa using hb⟩, ih (by omega)⟩

/-- What an array made of a byte list reads. -/
theorem Cells.get_ofBytes {dflt : Byte} {lo i : Nat} {bs : List Byte} (h : lo ≤ i) :
    Cells.get dflt (Cells.ofBytes dflt lo bs) i = bs.getD (i - lo) dflt := by
  induction bs generalizing lo with
  | nil => simp [Cells.ofBytes, Cells.get]
  | cons b rest ih =>
    simp only [Cells.ofBytes]
    have hwf : Cells.wfFrom dflt (lo + 1 + rest.length) (lo + 1) (Cells.ofBytes dflt (lo + 1) rest) = true :=
      Cells.wfFrom_ofBytes (Nat.le_refl _)
    rcases Nat.eq_or_lt_of_le h with heq | hlt
    · subst heq
      split
      · rename_i hb
        simp [Cells.get_below hwf (Nat.lt_succ_self _), hb]
      · simp [Cells.get]
    · have h1 : i - lo = (i - (lo + 1)) + 1 := by omega
      have h2 : ¬ i < lo := by omega
      have h3 : ¬ i = lo := by omega
      split
      · rw [ih (by omega), h1]; simp
      · simp only [Cells.get, h2, h3, if_false]
        rw [ih (by omega), h1]; simp

theorem Cells.ofBytes_replicate (dflt : Byte) (lo n : Nat) : Cells.ofBytes dflt lo (List.replicate n dflt) = [] := by
  induction n generalizing lo with
  | zero => rfl
  | succ n ih => simp [List.replicate_succ, Cells.ofBytes, ih]

@[simp] theorem Cells.length_bytes (dflt : Byte) (size : Nat) (cs : Cells) : (Cells.bytes dflt size cs).length = size := by
  simp [Cells.bytes]

theorem Cells.getD_bytes {dflt e : Byte} {size i : Nat} {cs : Cells} (h : i < size) :
    (Cells.bytes dflt size cs).getD i e = Cells.get dflt cs i := by
  simp [Cells.bytes, h]

/-- A canonical array is the array of its own bytes. -/
theorem Cells.ofBytes_bytes {dflt : Byte} {size : Nat} {cs : Cells} (h : Cells.wfFrom dflt size 0 cs = true) :
    Cells.ofBytes dflt 0 (Cells.bytes dflt size cs) = cs := by
  refine Cells.ext_of_get (Cells.wfFrom_ofBytes (size := size) (by simp)) h (fun i => ?_)
  rw [Cells.get_ofBytes (Nat.zero_le _), Nat.sub_zero]
  rcases Nat.lt_or_ge i size with hi | hi
  · exact Cells.getD_bytes hi
  · rw [Cells.get_beyond h hi, List.getD_eq_default _ _ (by simpa using hi)]

/-- The bytes of the array of a byte list of the array's size. -/
theorem Cells.bytes_ofBytes {dflt : Byte} {bs : List Byte} :
    Cells.bytes dflt bs.length (Cells.ofBytes dflt 0 bs) = bs := by
  refine List.ext_getElem (by simp) (fun i h1 h2 => ?_)
  have := Cells.get_ofBytes (dflt := dflt) (bs := bs) (Nat.zero_le i)
  simp [Cells.bytes, this, h2]

/-! ## The arrays of the bus -/

@[simp] theorem Memory.bank_setBank_self (m : Memory) (r : Region) (cs : Cells) : (m.setBank r cs).bank r = cs := by
  cases r <;> rfl

theorem Memory.bank_setBank_ne (m : Memory) {r q : Region} (cs : Cells) (h : q ≠ r) :
    (m.setBank r cs).bank q = m.bank q := by
  cases r <;> cases q <;> first | rfl | exact absurd rfl h

theorem Memory.wf_iff (m : Memory) : m.wf = true ↔ ∀ r, m.bankWf r = true := by
  constructor
  · intro h r
    simp only [Memory.wf, Bool.and_eq_true] at h
    cases r <;> simp [h]
  · intro h
    simp [Memory.wf, h]

theorem Memory.wfFrom_bank {m : Memory} (h : m.wf = true) (r : Region) :
    Cells.wfFrom r.dflt r.size 0 (m.bank r) = true := by
  have := (Memory.wf_iff m).1 h r
  simp only [Memory.bankWf, Bool.and_eq_true] at this
  exact this.1

/-- `io` has no index 0x0F. -/
theorem Memory.get_io_hole {m : Memory} (h : m.wf = true) : m.get .io 0x0F = Region.dflt .io := by
  have := (Memory.wf_iff m).1 h .io
  simp only [Memory.bankWf, Bool.and_eq_true, Bool.or_eq_true, decide_eq_true_eq, beq_iff_eq] at this
  exact this.2.resolve_left (fun h => h rfl)

@[simp] theorem Memory.get_put_self {m : Memory} (h : m.wf = true) (r : Region) (i : Nat) (v : Byte) :
    (m.put r i v).get r i = v := by
  simp [Memory.get, Memory.put, Cells.get_put_self (Memory.wfFrom_bank h r)]

theorem Memory.get_put_ne {m : Memory} (h : m.wf = true) {r q : Region} {i j : Nat} (v : Byte)
    (hne : q ≠ r ∨ j ≠ i) : (m.put r i v).get q j = m.get q j := by
  by_cases hq : q = r
  · subst hq
    have hj : j ≠ i := hne.resolve_left (fun h => h rfl)
    simp [Memory.get, Memory.put, Cells.get_put_ne (Memory.wfFrom_bank h q) hj]
  · simp [Memory.get, Memory.put, Memory.bank_setBank_ne m _ hq]

/-- A write inside an array (not at the index that does not exist) keeps the canonical form. -/
theorem Memory.wf_put {m : Memory} (h : m.wf = true) {r : Region} {i : Nat} (v : Byte) (hi : i < r.size)
    (hio : r ≠ .io ∨ i ≠ 0x0F) : (m.put r i v).wf = true := by
  refine (Memory.wf_iff _).2 (fun q => ?_)
  have hq := (Memory.wf_iff m).1 h q
  simp only [Memory.bankWf, Bool.and_eq_true] at hq ⊢
  constructor
  · by_cases hqr : q = r
    · subst hqr
      simpa [Memory.put] using Cells.wfFrom_put (Memory.wfFrom_bank h q) (Nat.zero_le _) hi
    · simpa [Memory.put, Memory.bank_setBank_ne m _ hqr] using hq.1
  · by_cases hqio : q = .io
    · subst hqio
      have hne : Region.io ≠ r ∨ (0x0F : Nat) ≠ i := by
        rcases hio with h1 | h1
        · exact Or.inl (fun h2 => h1 h2.symm)
        · exact Or.inr (fun h2 => h1 h2.symm)
      rw [Memory.get_put_ne h v hne]
      simpa using hq.2
    · simp [hqio]

/-! ## The address map -/

/-! The rows of R63, one lemma each. -/

theorem ownerOf_overlay (bm : Bool) {n : Nat} (h : n < 0x0100) :
    ownerOf bm n = if bm then .cell .boot n else .cell .rom n := by
  unfold ownerOf
  rw [if_pos h]

theorem ownerOf_rom (bm : Bool) {n : Nat} (h : 0x0100 ≤ n) (h' : n < 0x8000) : ownerOf bm n = .cell .rom n := by
  simp (disch := omega) only [ownerOf, if_neg, if_pos]

theorem ownerOf_vram (bm : Bool) {n : Nat} (h : 0x8000 ≤ n) (h' : n < 0xA000) : ownerOf bm n = .cell .vram (n - 0x8000) := by
  simp (disch := omega) only [ownerOf, if_neg, if_pos]

theorem ownerOf_cartRam (bm : Bool) {n : Nat} (h : 0xA000 ≤ n) (h' : n < 0xC000) : ownerOf bm n = .unmapped := by
  simp (disch := omega) only [ownerOf, if_neg, if_pos]

theorem ownerOf_wram (bm : Bool) {n : Nat} (h : 0xC000 ≤ n) (h' : n < 0xE000) : ownerOf bm n = .cell .wram (n - 0xC000) := by
  simp (disch := omega) only [ownerOf, if_neg, if_pos]

theorem ownerOf_echo (bm : Bool) {n : Nat} (h : 0xE000 ≤ n) (h' : n < 0xFE00) : ownerOf bm n = .cell .wram (n - 0xE000) := by
  simp (disch := omega) only [ownerOf, if_neg, if_pos]

theorem ownerOf_oam (bm : Bool) {n : Nat} (h : 0xFE00 ≤ n) (h' : n < 0xFEA0) : ownerOf bm n = .cell .oam (n - 0xFE00) := by
  simp (disch := omega) only [ownerOf, if_neg, if_pos]

theorem ownerOf_gap (bm : Bool) {n : Nat} (h : 0xFEA0 ≤ n) (h' : n < 0xFF00) : ownerOf bm n = .unmapped := by
  simp (disch := omega) only [ownerOf, if_neg, if_pos]

theorem ownerOf_ioLow (bm : Bool) {n : Nat} (h : 0xFF00 ≤ n) (h' : n < 0xFF0F) : ownerOf bm n = .cell .io (n - 0xFF00) := by
  simp (disch := omega) only [ownerOf, if_neg, if_pos]

theorem ownerOf_ifReg (bm : Bool) {n : Nat} (h : n = 0xFF0F) : ownerOf bm n = .ifReg := by
  simp (disch := omega) only [ownerOf, if_neg, if_pos]

theorem ownerOf_ioMid (bm : Bool) {n : Nat} (h : 0xFF10 ≤ n) (h' : n < 0xFF50) : ownerOf bm n = .cell .io (n - 0xFF00) := by
  simp (disch := omega) only [ownerOf, if_neg, if_pos]

theorem ownerOf_bootReg (bm : Bool) {n : Nat} (h : n = 0xFF50) : ownerOf bm n = .bootReg := by
  simp (disch := omega) only [ownerOf, if_neg, if_pos]

theorem ownerOf_ioHigh (bm : Bool) {n : Nat} (h : 0xFF51 ≤ n) (h' : n < 0xFF80) : ownerOf bm n = .cell .io (n - 0xFF00) := by
  simp (disch := omega) only [ownerOf, if_neg, if_pos]

theorem ownerOf_hram (bm : Bool) {n : Nat} (h : 0xFF80 ≤ n) (h' : n < 0xFFFF) : ownerOf bm n = .cell .hram (n - 0xFF80) := by
  simp (disch := omega) only [ownerOf, if_neg, if_pos]

theorem ownerOf_ieReg (bm : Bool) {n : Nat} (h : 0xFFFF ≤ n) : ownerOf bm n = .ieReg := by
  simp (disch := omega) only [ownerOf, if_neg]

/-- An address lies in exactly one row of R63: a fact about every address follows from one about each row. -/
theorem address_rows {P : Nat → Prop} (overlay : ∀ n, n < 0x0100 → P n) (rom : ∀ n, 0x0100 ≤ n → n < 0x8000 → P n)
    (vram : ∀ n, 0x8000 ≤ n → n < 0xA000 → P n) (cartRam : ∀ n, 0xA000 ≤ n → n < 0xC000 → P n)
    (wram : ∀ n, 0xC000 ≤ n → n < 0xE000 → P n) (echo : ∀ n, 0xE000 ≤ n → n < 0xFE00 → P n)
    (oam : ∀ n, 0xFE00 ≤ n → n < 0xFEA0 → P n) (gap : ∀ n, 0xFEA0 ≤ n → n < 0xFF00 → P n)
    (ioLow : ∀ n, 0xFF00 ≤ n → n < 0xFF0F → P n) (ifReg : ∀ n, n = 0xFF0F → P n)
    (ioMid : ∀ n, 0xFF10 ≤ n → n < 0xFF50 → P n) (bootReg : ∀ n, n = 0xFF50 → P n)
    (ioHigh : ∀ n, 0xFF51 ≤ n → n < 0xFF80 → P n) (hram : ∀ n, 0xFF80 ≤ n → n < 0xFFFF → P n)
    (ieReg : ∀ n, 0xFFFF ≤ n → P n) (n : Nat) : P n := by
  rcases Nat.lt_or_ge n 0x0100 with h1 | h1
  · exact overlay n h1
  rcases Nat.lt_or_ge n 0x8000 with h2 | h2
  · exact rom n h1 h2
  rcases Nat.lt_or_ge n 0xA000 with h3 | h3
  · exact vram n h2 h3
  rcases Nat.lt_or_ge n 0xC000 with h4 | h4
  · exact cartRam n h3 h4
  rcases Nat.lt_or_ge n 0xE000 with h5 | h5
  · exact wram n h4 h5
  rcases Nat.lt_or_ge n 0xFE00 with h6 | h6
  · exact echo n h5 h6
  rcases Nat.lt_or_ge n 0xFEA0 with h7 | h7
  · exact oam n h6 h7
  rcases Nat.lt_or_ge n 0xFF00 with h8 | h8
  · exact gap n h7 h8
  rcases Nat.lt_trichotomy n 0xFF0F with h9 | h9 | h9
  · exact ioLow n h8 h9
  · exact ifReg n h9
  rcases Nat.lt_trichotomy n 0xFF50 with h10 | h10 | h10
  · exact ioMid n h9 h10
  · exact bootReg n h10
  rcases Nat.lt_or_ge n 0xFF80 with h11 | h11
  · exact ioHigh n h10 h11
  rcases Nat.lt_or_ge n 0xFFFF with h12 | h12
  · exact hram n h11 h12
  · exact ieReg n h12

/-- Every owned byte lies inside its array, and never at the `io` index that does not exist. -/
theorem ownerOf_cell {bm : Bool} {n : Nat} {r : Region} {i : Nat} (h : ownerOf bm n = .cell r i) :
    i < r.size ∧ (r ≠ .io ∨ i ≠ 0x0F) := by
  revert h
  induction n using address_rows with
  | overlay n h1 => rw [ownerOf_overlay bm h1]; cases bm <;> rintro ⟨⟩ <;> simp [Region.size] <;> omega
  | rom n h1 h2 => rw [ownerOf_rom bm h1 h2]; rintro ⟨⟩; simp [Region.size]; omega
  | vram n h1 h2 => rw [ownerOf_vram bm h1 h2]; rintro ⟨⟩; simp [Region.size]; omega
  | cartRam n h1 h2 => rw [ownerOf_cartRam bm h1 h2]; rintro ⟨⟩
  | wram n h1 h2 => rw [ownerOf_wram bm h1 h2]; rintro ⟨⟩; simp [Region.size]; omega
  | echo n h1 h2 => rw [ownerOf_echo bm h1 h2]; rintro ⟨⟩; simp [Region.size]; omega
  | oam n h1 h2 => rw [ownerOf_oam bm h1 h2]; rintro ⟨⟩; simp [Region.size]; omega
  | gap n h1 h2 => rw [ownerOf_gap bm h1 h2]; rintro ⟨⟩
  | ioLow n h1 h2 => rw [ownerOf_ioLow bm h1 h2]; rintro ⟨⟩; simp [Region.size]; omega
  | ifReg n h1 => rw [ownerOf_ifReg bm h1]; rintro ⟨⟩
  | ioMid n h1 h2 => rw [ownerOf_ioMid bm h1 h2]; rintro ⟨⟩; simp [Region.size]; omega
  | bootReg n h1 => rw [ownerOf_bootReg bm h1]; rintro ⟨⟩
  | ioHigh n h1 h2 => rw [ownerOf_ioHigh bm h1 h2]; rintro ⟨⟩; simp [Region.size]; omega
  | hram n h1 h2 => rw [ownerOf_hram bm h1 h2]; rintro ⟨⟩; simp [Region.size]; omega
  | ieReg n h1 => rw [ownerOf_ieReg bm h1]; rintro ⟨⟩

/-- The overlay decides the owner of the lowest 256 addresses and of no other (R65). -/
theorem ownerOf_high (bm bm' : Bool) {n : Nat} (h : 0x100 ≤ n) : ownerOf bm n = ownerOf bm' n := by
  simp only [ownerOf, if_neg (Nat.not_lt.mpr h)]

/-- `IF` stands at one address (R73). -/
theorem ownerOf_eq_ifReg {bm : Bool} {n : Nat} : ownerOf bm n = .ifReg ↔ n = 0xFF0F := by
  induction n using address_rows with
  | overlay n h1 => rw [ownerOf_overlay bm h1]; cases bm <;> simp <;> omega
  | rom n h1 h2 => rw [ownerOf_rom bm h1 h2]; simp; omega
  | vram n h1 h2 => rw [ownerOf_vram bm h1 h2]; simp; omega
  | cartRam n h1 h2 => rw [ownerOf_cartRam bm h1 h2]; simp; omega
  | wram n h1 h2 => rw [ownerOf_wram bm h1 h2]; simp; omega
  | echo n h1 h2 => rw [ownerOf_echo bm h1 h2]; simp; omega
  | oam n h1 h2 => rw [ownerOf_oam bm h1 h2]; simp; omega
  | gap n h1 h2 => rw [ownerOf_gap bm h1 h2]; simp; omega
  | ioLow n h1 h2 => rw [ownerOf_ioLow bm h1 h2]; simp; omega
  | ifReg n h1 => rw [ownerOf_ifReg bm h1]; simp; omega
  | ioMid n h1 h2 => rw [ownerOf_ioMid bm h1 h2]; simp; omega
  | bootReg n h1 => rw [ownerOf_bootReg bm h1]; simp; omega
  | ioHigh n h1 h2 => rw [ownerOf_ioHigh bm h1 h2]; simp; omega
  | hram n h1 h2 => rw [ownerOf_hram bm h1 h2]; simp; omega
  | ieReg n h1 => rw [ownerOf_ieReg bm h1]; simp; omega

/-- The boot-disable register stands at one address (R74). -/
theorem ownerOf_eq_bootReg {bm : Bool} {n : Nat} : ownerOf bm n = .bootReg ↔ n = 0xFF50 := by
  induction n using address_rows with
  | overlay n h1 => rw [ownerOf_overlay bm h1]; cases bm <;> simp <;> omega
  | rom n h1 h2 => rw [ownerOf_rom bm h1 h2]; simp; omega
  | vram n h1 h2 => rw [ownerOf_vram bm h1 h2]; simp; omega
  | cartRam n h1 h2 => rw [ownerOf_cartRam bm h1 h2]; simp; omega
  | wram n h1 h2 => rw [ownerOf_wram bm h1 h2]; simp; omega
  | echo n h1 h2 => rw [ownerOf_echo bm h1 h2]; simp; omega
  | oam n h1 h2 => rw [ownerOf_oam bm h1 h2]; simp; omega
  | gap n h1 h2 => rw [ownerOf_gap bm h1 h2]; simp; omega
  | ioLow n h1 h2 => rw [ownerOf_ioLow bm h1 h2]; simp; omega
  | ifReg n h1 => rw [ownerOf_ifReg bm h1]; simp; omega
  | ioMid n h1 h2 => rw [ownerOf_ioMid bm h1 h2]; simp; omega
  | bootReg n h1 => rw [ownerOf_bootReg bm h1]; simp; omega
  | ioHigh n h1 h2 => rw [ownerOf_ioHigh bm h1 h2]; simp; omega
  | hram n h1 h2 => rw [ownerOf_hram bm h1 h2]; simp; omega
  | ieReg n h1 => rw [ownerOf_ieReg bm h1]; simp; omega

/-- `IE` stands at one address (R76). -/
theorem ownerOf_eq_ieReg {bm : Bool} {n : Nat} : ownerOf bm n = .ieReg ↔ 0xFFFF ≤ n := by
  induction n using address_rows with
  | overlay n h1 => rw [ownerOf_overlay bm h1]; cases bm <;> simp <;> omega
  | rom n h1 h2 => rw [ownerOf_rom bm h1 h2]; simp; omega
  | vram n h1 h2 => rw [ownerOf_vram bm h1 h2]; simp; omega
  | cartRam n h1 h2 => rw [ownerOf_cartRam bm h1 h2]; simp; omega
  | wram n h1 h2 => rw [ownerOf_wram bm h1 h2]; simp; omega
  | echo n h1 h2 => rw [ownerOf_echo bm h1 h2]; simp; omega
  | oam n h1 h2 => rw [ownerOf_oam bm h1 h2]; simp; omega
  | gap n h1 h2 => rw [ownerOf_gap bm h1 h2]; simp; omega
  | ioLow n h1 h2 => rw [ownerOf_ioLow bm h1 h2]; simp; omega
  | ifReg n h1 => rw [ownerOf_ifReg bm h1]; simp; omega
  | ioMid n h1 h2 => rw [ownerOf_ioMid bm h1 h2]; simp; omega
  | bootReg n h1 => rw [ownerOf_bootReg bm h1]; simp; omega
  | ioHigh n h1 h2 => rw [ownerOf_ioHigh bm h1 h2]; simp; omega
  | hram n h1 h2 => rw [ownerOf_hram bm h1 h2]; simp; omega
  | ieReg n h1 => rw [ownerOf_ieReg bm h1]; simp; omega

/-! ## One byte, one home address (R69) -/

/-- The home address of an address, as a number. -/
theorem homeAddr_toNat (a : Word) :
    (homeAddr a).toNat = if 0xE000 ≤ a.toNat ∧ a.toNat < 0xFE00 then a.toNat - 0x2000 else a.toNat := by
  unfold homeAddr
  by_cases h : 0xE000 ≤ a.toNat ∧ a.toNat < 0xFE00
  · rw [if_pos h, if_pos h, BitVec.toNat_sub]
    have h2 : (0x2000 : Word).toNat = 0x2000 := rfl
    have := a.isLt
    rw [h2]
    omega
  · rw [if_neg h, if_neg h]

/-- Where a writable array starts in the address space. -/
def Region.base : Region → Nat
  | .rom => 0
  | .boot => 0
  | .vram => 0x8000
  | .wram => 0xC000
  | .oam => 0xFE00
  | .io => 0xFF00
  | .hram => 0xFF80

/-- A byte of a writable array has one home address. -/
theorem homeAddr_of_cell {bm : Bool} {a : Word} {r : Region} {i : Nat} (h : ownerOf bm a.toNat = .cell r i)
    (hr : r.writable = true) : (homeAddr a).toNat = r.base + i := by
  rw [homeAddr_toNat]
  revert h
  generalize a.toNat = n
  induction n using address_rows with
  | overlay n h1 => rw [ownerOf_overlay bm h1]; cases bm <;> rintro ⟨⟩ <;> cases hr
  | rom n h1 h2 => rw [ownerOf_rom bm h1 h2]; rintro ⟨⟩; cases hr
  | vram n h1 h2 => rw [ownerOf_vram bm h1 h2, if_neg (by omega)]; rintro ⟨⟩; simp only [Region.base]; omega
  | cartRam n h1 h2 => rw [ownerOf_cartRam bm h1 h2]; rintro ⟨⟩
  | wram n h1 h2 => rw [ownerOf_wram bm h1 h2, if_neg (by omega)]; rintro ⟨⟩; simp only [Region.base]; omega
  | echo n h1 h2 => rw [ownerOf_echo bm h1 h2, if_pos ⟨h1, h2⟩]; rintro ⟨⟩; simp only [Region.base]; omega
  | oam n h1 h2 => rw [ownerOf_oam bm h1 h2, if_neg (by omega)]; rintro ⟨⟩; simp only [Region.base]; omega
  | gap n h1 h2 => rw [ownerOf_gap bm h1 h2]; rintro ⟨⟩
  | ioLow n h1 h2 => rw [ownerOf_ioLow bm h1 h2, if_neg (by omega)]; rintro ⟨⟩; simp only [Region.base]; omega
  | ifReg n h1 => rw [ownerOf_ifReg bm h1]; rintro ⟨⟩
  | ioMid n h1 h2 => rw [ownerOf_ioMid bm h1 h2, if_neg (by omega)]; rintro ⟨⟩; simp only [Region.base]; omega
  | bootReg n h1 => rw [ownerOf_bootReg bm h1]; rintro ⟨⟩
  | ioHigh n h1 h2 => rw [ownerOf_ioHigh bm h1 h2, if_neg (by omega)]; rintro ⟨⟩; simp only [Region.base]; omega
  | hram n h1 h2 => rw [ownerOf_hram bm h1 h2, if_neg (by omega)]; rintro ⟨⟩; simp only [Region.base]; omega
  | ieReg n h1 => rw [ownerOf_ieReg bm h1]; rintro ⟨⟩

/-- Two addresses with one home address have one owner. -/
theorem ownerOf_homeAddr (bm : Bool) (a : Word) : ownerOf bm (homeAddr a).toNat = ownerOf bm a.toNat := by
  rw [homeAddr_toNat]
  by_cases h : 0xE000 ≤ a.toNat ∧ a.toNat < 0xFE00
  · have h1 : a.toNat - 0x2000 - 0xC000 = a.toNat - 0xE000 := by omega
    rw [if_pos h, ownerOf_echo bm h.1 h.2, ownerOf_wram bm (by omega) (by omega), h1]
  · rw [if_neg h]

/-! ## Every memory operation keeps the canonical form -/

theorem State.write_memWf {s : State} (h : s.mem.wf = true) (addr : Word) (v : Byte) : (s.write addr v).mem.wf = true := by
  unfold State.write
  split
  · rename_i r i ho
    split
    · exact Memory.wf_put h v (ownerOf_cell ho).1 (ownerOf_cell ho).2
    · exact h
  · exact h
  · exact Memory.wf_put h v (by decide) (Or.inr (by decide))
  · exact h
  · exact h

theorem State.write16_memWf {s : State} (h : s.mem.wf = true) (addr : Word) (v : Word) :
    (s.write16 addr v).mem.wf = true :=
  State.write_memWf (State.write_memWf h addr _) _ _

theorem State.reset_memWf : State.reset.mem.wf = true := rfl

end Sys2Proof.Machine
end

