-- ==== Sys2Proof/Laws/State.lean ====
section
/-! SUPPORT. One lemma per field per update of State: what each named update of registers and flags writes, and that it leaves
every other field alone. -/

namespace Sys2Proof.Machine

/-! ## `State.setFlags` -/

@[simp] theorem State.setFlags_a (s : State) (z n h c : Bool) : (s.setFlags z n h c).a = s.a := rfl
@[simp] theorem State.setFlags_f (s : State) (z n h c : Bool) : (s.setFlags z n h c).f = packF z n h c := rfl
@[simp] theorem State.setFlags_b (s : State) (z n h c : Bool) : (s.setFlags z n h c).b = s.b := rfl
@[simp] theorem State.setFlags_c (s : State) (z n h c : Bool) : (s.setFlags z n h c).c = s.c := rfl
@[simp] theorem State.setFlags_d (s : State) (z n h c : Bool) : (s.setFlags z n h c).d = s.d := rfl
@[simp] theorem State.setFlags_e (s : State) (z n h c : Bool) : (s.setFlags z n h c).e = s.e := rfl
@[simp] theorem State.setFlags_h (s : State) (z n h c : Bool) : (s.setFlags z n h c).h = s.h := rfl
@[simp] theorem State.setFlags_l (s : State) (z n h c : Bool) : (s.setFlags z n h c).l = s.l := rfl
@[simp] theorem State.setFlags_sp (s : State) (z n h c : Bool) : (s.setFlags z n h c).sp = s.sp := rfl
@[simp] theorem State.setFlags_pc (s : State) (z n h c : Bool) : (s.setFlags z n h c).pc = s.pc := rfl
@[simp] theorem State.setFlags_ime (s : State) (z n h c : Bool) : (s.setFlags z n h c).ime = s.ime := rfl
@[simp] theorem State.setFlags_imePending (s : State) (z n h c : Bool) : (s.setFlags z n h c).imePending = s.imePending := rfl
@[simp] theorem State.setFlags_haltBug (s : State) (z n h c : Bool) : (s.setFlags z n h c).haltBug = s.haltBug := rfl
@[simp] theorem State.setFlags_bootMapped (s : State) (z n h c : Bool) : (s.setFlags z n h c).bootMapped = s.bootMapped := rfl
@[simp] theorem State.setFlags_mode (s : State) (z n h c : Bool) : (s.setFlags z n h c).mode = s.mode := rfl
@[simp] theorem State.setFlags_ie (s : State) (z n h c : Bool) : (s.setFlags z n h c).ie = s.ie := rfl
@[simp] theorem State.setFlags_iflag (s : State) (z n h c : Bool) : (s.setFlags z n h c).iflag = s.iflag := rfl
@[simp] theorem State.setFlags_mem (s : State) (z n h c : Bool) : (s.setFlags z n h c).mem = s.mem := rfl
@[simp] theorem State.setFlags_inputs (s : State) (z n h c : Bool) : (s.setFlags z n h c).inputs = s.inputs := rfl

/-! ## `State.setBC` -/

@[simp] theorem State.setBC_a (s : State) (w : Word) : (s.setBC w).a = s.a := rfl
@[simp] theorem State.setBC_f (s : State) (w : Word) : (s.setBC w).f = s.f := rfl
@[simp] theorem State.setBC_b (s : State) (w : Word) : (s.setBC w).b = hi w := rfl
@[simp] theorem State.setBC_c (s : State) (w : Word) : (s.setBC w).c = lo w := rfl
@[simp] theorem State.setBC_d (s : State) (w : Word) : (s.setBC w).d = s.d := rfl
@[simp] theorem State.setBC_e (s : State) (w : Word) : (s.setBC w).e = s.e := rfl
@[simp] theorem State.setBC_h (s : State) (w : Word) : (s.setBC w).h = s.h := rfl
@[simp] theorem State.setBC_l (s : State) (w : Word) : (s.setBC w).l = s.l := rfl
@[simp] theorem State.setBC_sp (s : State) (w : Word) : (s.setBC w).sp = s.sp := rfl
@[simp] theorem State.setBC_pc (s : State) (w : Word) : (s.setBC w).pc = s.pc := rfl
@[simp] theorem State.setBC_ime (s : State) (w : Word) : (s.setBC w).ime = s.ime := rfl
@[simp] theorem State.setBC_imePending (s : State) (w : Word) : (s.setBC w).imePending = s.imePending := rfl
@[simp] theorem State.setBC_haltBug (s : State) (w : Word) : (s.setBC w).haltBug = s.haltBug := rfl
@[simp] theorem State.setBC_bootMapped (s : State) (w : Word) : (s.setBC w).bootMapped = s.bootMapped := rfl
@[simp] theorem State.setBC_mode (s : State) (w : Word) : (s.setBC w).mode = s.mode := rfl
@[simp] theorem State.setBC_ie (s : State) (w : Word) : (s.setBC w).ie = s.ie := rfl
@[simp] theorem State.setBC_iflag (s : State) (w : Word) : (s.setBC w).iflag = s.iflag := rfl
@[simp] theorem State.setBC_mem (s : State) (w : Word) : (s.setBC w).mem = s.mem := rfl
@[simp] theorem State.setBC_inputs (s : State) (w : Word) : (s.setBC w).inputs = s.inputs := rfl

/-! ## `State.setDE` -/

@[simp] theorem State.setDE_a (s : State) (w : Word) : (s.setDE w).a = s.a := rfl
@[simp] theorem State.setDE_f (s : State) (w : Word) : (s.setDE w).f = s.f := rfl
@[simp] theorem State.setDE_b (s : State) (w : Word) : (s.setDE w).b = s.b := rfl
@[simp] theorem State.setDE_c (s : State) (w : Word) : (s.setDE w).c = s.c := rfl
@[simp] theorem State.setDE_d (s : State) (w : Word) : (s.setDE w).d = hi w := rfl
@[simp] theorem State.setDE_e (s : State) (w : Word) : (s.setDE w).e = lo w := rfl
@[simp] theorem State.setDE_h (s : State) (w : Word) : (s.setDE w).h = s.h := rfl
@[simp] theorem State.setDE_l (s : State) (w : Word) : (s.setDE w).l = s.l := rfl
@[simp] theorem State.setDE_sp (s : State) (w : Word) : (s.setDE w).sp = s.sp := rfl
@[simp] theorem State.setDE_pc (s : State) (w : Word) : (s.setDE w).pc = s.pc := rfl
@[simp] theorem State.setDE_ime (s : State) (w : Word) : (s.setDE w).ime = s.ime := rfl
@[simp] theorem State.setDE_imePending (s : State) (w : Word) : (s.setDE w).imePending = s.imePending := rfl
@[simp] theorem State.setDE_haltBug (s : State) (w : Word) : (s.setDE w).haltBug = s.haltBug := rfl
@[simp] theorem State.setDE_bootMapped (s : State) (w : Word) : (s.setDE w).bootMapped = s.bootMapped := rfl
@[simp] theorem State.setDE_mode (s : State) (w : Word) : (s.setDE w).mode = s.mode := rfl
@[simp] theorem State.setDE_ie (s : State) (w : Word) : (s.setDE w).ie = s.ie := rfl
@[simp] theorem State.setDE_iflag (s : State) (w : Word) : (s.setDE w).iflag = s.iflag := rfl
@[simp] theorem State.setDE_mem (s : State) (w : Word) : (s.setDE w).mem = s.mem := rfl
@[simp] theorem State.setDE_inputs (s : State) (w : Word) : (s.setDE w).inputs = s.inputs := rfl

/-! ## `State.setHL` -/

@[simp] theorem State.setHL_a (s : State) (w : Word) : (s.setHL w).a = s.a := rfl
@[simp] theorem State.setHL_f (s : State) (w : Word) : (s.setHL w).f = s.f := rfl
@[simp] theorem State.setHL_b (s : State) (w : Word) : (s.setHL w).b = s.b := rfl
@[simp] theorem State.setHL_c (s : State) (w : Word) : (s.setHL w).c = s.c := rfl
@[simp] theorem State.setHL_d (s : State) (w : Word) : (s.setHL w).d = s.d := rfl
@[simp] theorem State.setHL_e (s : State) (w : Word) : (s.setHL w).e = s.e := rfl
@[simp] theorem State.setHL_h (s : State) (w : Word) : (s.setHL w).h = hi w := rfl
@[simp] theorem State.setHL_l (s : State) (w : Word) : (s.setHL w).l = lo w := rfl
@[simp] theorem State.setHL_sp (s : State) (w : Word) : (s.setHL w).sp = s.sp := rfl
@[simp] theorem State.setHL_pc (s : State) (w : Word) : (s.setHL w).pc = s.pc := rfl
@[simp] theorem State.setHL_ime (s : State) (w : Word) : (s.setHL w).ime = s.ime := rfl
@[simp] theorem State.setHL_imePending (s : State) (w : Word) : (s.setHL w).imePending = s.imePending := rfl
@[simp] theorem State.setHL_haltBug (s : State) (w : Word) : (s.setHL w).haltBug = s.haltBug := rfl
@[simp] theorem State.setHL_bootMapped (s : State) (w : Word) : (s.setHL w).bootMapped = s.bootMapped := rfl
@[simp] theorem State.setHL_mode (s : State) (w : Word) : (s.setHL w).mode = s.mode := rfl
@[simp] theorem State.setHL_ie (s : State) (w : Word) : (s.setHL w).ie = s.ie := rfl
@[simp] theorem State.setHL_iflag (s : State) (w : Word) : (s.setHL w).iflag = s.iflag := rfl
@[simp] theorem State.setHL_mem (s : State) (w : Word) : (s.setHL w).mem = s.mem := rfl
@[simp] theorem State.setHL_inputs (s : State) (w : Word) : (s.setHL w).inputs = s.inputs := rfl

/-! ## `State.setAF` -/

@[simp] theorem State.setAF_a (s : State) (w : Word) : (s.setAF w).a = hi w := rfl
@[simp] theorem State.setAF_f (s : State) (w : Word) : (s.setAF w).f = lo w &&& 0xF0 := rfl
@[simp] theorem State.setAF_b (s : State) (w : Word) : (s.setAF w).b = s.b := rfl
@[simp] theorem State.setAF_c (s : State) (w : Word) : (s.setAF w).c = s.c := rfl
@[simp] theorem State.setAF_d (s : State) (w : Word) : (s.setAF w).d = s.d := rfl
@[simp] theorem State.setAF_e (s : State) (w : Word) : (s.setAF w).e = s.e := rfl
@[simp] theorem State.setAF_h (s : State) (w : Word) : (s.setAF w).h = s.h := rfl
@[simp] theorem State.setAF_l (s : State) (w : Word) : (s.setAF w).l = s.l := rfl
@[simp] theorem State.setAF_sp (s : State) (w : Word) : (s.setAF w).sp = s.sp := rfl
@[simp] theorem State.setAF_pc (s : State) (w : Word) : (s.setAF w).pc = s.pc := rfl
@[simp] theorem State.setAF_ime (s : State) (w : Word) : (s.setAF w).ime = s.ime := rfl
@[simp] theorem State.setAF_imePending (s : State) (w : Word) : (s.setAF w).imePending = s.imePending := rfl
@[simp] theorem State.setAF_haltBug (s : State) (w : Word) : (s.setAF w).haltBug = s.haltBug := rfl
@[simp] theorem State.setAF_bootMapped (s : State) (w : Word) : (s.setAF w).bootMapped = s.bootMapped := rfl
@[simp] theorem State.setAF_mode (s : State) (w : Word) : (s.setAF w).mode = s.mode := rfl
@[simp] theorem State.setAF_ie (s : State) (w : Word) : (s.setAF w).ie = s.ie := rfl
@[simp] theorem State.setAF_iflag (s : State) (w : Word) : (s.setAF w).iflag = s.iflag := rfl
@[simp] theorem State.setAF_mem (s : State) (w : Word) : (s.setAF w).mem = s.mem := rfl
@[simp] theorem State.setAF_inputs (s : State) (w : Word) : (s.setAF w).inputs = s.inputs := rfl

/-! ## The flags after `setFlags` -/

theorem packF_zf : ∀ z n h c : Bool, (packF z n h c).getLsbD 7 = z := by decide
theorem packF_nf : ∀ z n h c : Bool, (packF z n h c).getLsbD 6 = n := by decide
theorem packF_hf : ∀ z n h c : Bool, (packF z n h c).getLsbD 5 = h := by decide
theorem packF_cf : ∀ z n h c : Bool, (packF z n h c).getLsbD 4 = c := by decide
@[simp] theorem State.setFlags_zf (s : State) (z n h c : Bool) : (s.setFlags z n h c).zf = z := packF_zf z n h c
@[simp] theorem State.setFlags_nf (s : State) (z n h c : Bool) : (s.setFlags z n h c).nf = n := packF_nf z n h c
@[simp] theorem State.setFlags_hf (s : State) (z n h c : Bool) : (s.setFlags z n h c).hf = h := packF_hf z n h c
@[simp] theorem State.setFlags_cf (s : State) (z n h c : Bool) : (s.setFlags z n h c).cf = c := packF_cf z n h c

/-- The packed flags keep the low nibble 0 (R21). -/
theorem packF_clean (z n h c : Bool) : packF z n h c &&& 0x0F = 0 := by cases z <;> cases n <;> cases h <;> cases c <;> rfl

/-- A flags byte with a clean low nibble is its four flags, packed. -/
theorem packF_of_clean {s : State} (h : s.f &&& 0x0F = 0) : packF s.zf s.nf s.hf s.cf = s.f := by
  have key : ∀ v : Byte, v &&& 0x0F = 0 →
      packF (v.getLsbD 7) (v.getLsbD 6) (v.getLsbD 5) (v.getLsbD 4) = v := by decide
  exact key s.f h

/-! ## Pairs -/

@[simp] theorem hi_join (h l : Byte) : hi (join h l) = h := by
  simp only [hi, join, BitVec.extractLsb'_append_eq_left]

@[simp] theorem lo_join (h l : Byte) : lo (join h l) = l := by
  simp only [lo, join, BitVec.extractLsb'_append_eq_right]

@[simp] theorem join_hi_lo (w : Word) : join (hi w) (lo w) = w := by
  apply BitVec.eq_of_getLsbD_eq
  intro i hlt
  refine (BitVec.getLsbD_append (x := hi w) (y := lo w) (i := i)).trans ?_
  by_cases h8 : i < 8
  · simp [lo, h8]
  · have h1 : i - 8 < 8 := by omega
    have h2 : 8 + (i - 8) = i := by omega
    simp [hi, h8, h1, h2]

@[simp] theorem State.bc_setBC (s : State) (w : Word) : (s.setBC w).bc = w := join_hi_lo w
@[simp] theorem State.de_setDE (s : State) (w : Word) : (s.setDE w).de = w := join_hi_lo w
@[simp] theorem State.hl_setHL (s : State) (w : Word) : (s.setHL w).hl = w := join_hi_lo w

end Sys2Proof.Machine
end

