-- ==== Sys2Proof/Laws/Ops.lean ====
section
/-! SUPPORT. What the shared operations of Ops and Operands do and leave alone: fetching, one store, one register write, the
stack, the dispatch. -/

namespace Sys2Proof.Machine

/-! ## Reading depends on the byte arrays and three registers only (R60) -/

theorem State.read_congr {s t : State} (hm : t.mem = s.mem) (hb : t.bootMapped = s.bootMapped) (hi : t.iflag = s.iflag)
    (he : t.ie = s.ie) (addr : Word) : t.read addr = s.read addr := by
  simp only [State.read, State.owner, hm, hb, hi, he]

@[simp] theorem State.setFlags_read (s : State) (z n h c : Bool) (addr : Word) :
    (s.setFlags z n h c).read addr = s.read addr := State.read_congr rfl rfl rfl rfl addr
@[simp] theorem State.setBC_read (s : State) (w addr : Word) : (s.setBC w).read addr = s.read addr :=
  State.read_congr rfl rfl rfl rfl addr
@[simp] theorem State.setDE_read (s : State) (w addr : Word) : (s.setDE w).read addr = s.read addr :=
  State.read_congr rfl rfl rfl rfl addr
@[simp] theorem State.setHL_read (s : State) (w addr : Word) : (s.setHL w).read addr = s.read addr :=
  State.read_congr rfl rfl rfl rfl addr
@[simp] theorem State.setAF_read (s : State) (w addr : Word) : (s.setAF w).read addr = s.read addr :=
  State.read_congr rfl rfl rfl rfl addr

/-! ## Fetching (R12) -/

theorem State.fetched_zero (s : State) : s.fetched 0 = s := rfl

theorem State.fetched_succ (s : State) (n : Nat) : s.fetched (n + 1) = s.fetch8.2.fetched n := rfl

/-- Fetching changes `PC` and the halt bug only. -/
theorem State.fetched_eq (n : Nat) (s : State) :
    s.fetched n = { s with pc := (s.fetched n).pc, haltBug := (s.fetched n).haltBug } := by
  induction n generalizing s with
  | zero => rfl
  | succ n ih =>
    rw [State.fetched_succ, ih]
    unfold State.fetch8
    cases s.haltBug <;> rfl

@[simp] theorem State.fetched_a (n : Nat) (s : State) : (s.fetched n).a = s.a := by rw [State.fetched_eq]
@[simp] theorem State.fetched_f (n : Nat) (s : State) : (s.fetched n).f = s.f := by rw [State.fetched_eq]
@[simp] theorem State.fetched_b (n : Nat) (s : State) : (s.fetched n).b = s.b := by rw [State.fetched_eq]
@[simp] theorem State.fetched_c (n : Nat) (s : State) : (s.fetched n).c = s.c := by rw [State.fetched_eq]
@[simp] theorem State.fetched_d (n : Nat) (s : State) : (s.fetched n).d = s.d := by rw [State.fetched_eq]
@[simp] theorem State.fetched_e (n : Nat) (s : State) : (s.fetched n).e = s.e := by rw [State.fetched_eq]
@[simp] theorem State.fetched_h (n : Nat) (s : State) : (s.fetched n).h = s.h := by rw [State.fetched_eq]
@[simp] theorem State.fetched_l (n : Nat) (s : State) : (s.fetched n).l = s.l := by rw [State.fetched_eq]
@[simp] theorem State.fetched_sp (n : Nat) (s : State) : (s.fetched n).sp = s.sp := by rw [State.fetched_eq]
@[simp] theorem State.fetched_ime (n : Nat) (s : State) : (s.fetched n).ime = s.ime := by rw [State.fetched_eq]
@[simp] theorem State.fetched_imePending (n : Nat) (s : State) : (s.fetched n).imePending = s.imePending := by rw [State.fetched_eq]
@[simp] theorem State.fetched_bootMapped (n : Nat) (s : State) : (s.fetched n).bootMapped = s.bootMapped := by rw [State.fetched_eq]
@[simp] theorem State.fetched_mode (n : Nat) (s : State) : (s.fetched n).mode = s.mode := by rw [State.fetched_eq]
@[simp] theorem State.fetched_ie (n : Nat) (s : State) : (s.fetched n).ie = s.ie := by rw [State.fetched_eq]
@[simp] theorem State.fetched_iflag (n : Nat) (s : State) : (s.fetched n).iflag = s.iflag := by rw [State.fetched_eq]
@[simp] theorem State.fetched_mem (n : Nat) (s : State) : (s.fetched n).mem = s.mem := by rw [State.fetched_eq]
@[simp] theorem State.fetched_inputs (n : Nat) (s : State) : (s.fetched n).inputs = s.inputs := by rw [State.fetched_eq]
@[simp] theorem State.fetched_read (n : Nat) (s : State) (addr : Word) : (s.fetched n).read addr = s.read addr :=
  State.read_congr (by simp) (by simp) (by simp) (by simp) addr
@[simp] theorem State.fetched_hl (n : Nat) (s : State) : (s.fetched n).hl = s.hl := by simp [State.hl]
@[simp] theorem State.fetched_bc (n : Nat) (s : State) : (s.fetched n).bc = s.bc := by simp [State.bc]
@[simp] theorem State.fetched_de (n : Nat) (s : State) : (s.fetched n).de = s.de := by simp [State.de]
@[simp] theorem State.fetched_af (n : Nat) (s : State) : (s.fetched n).af = s.af := by simp [State.af]
@[simp] theorem State.fetched_zf (n : Nat) (s : State) : (s.fetched n).zf = s.zf := by simp [State.zf]
@[simp] theorem State.fetched_nf (n : Nat) (s : State) : (s.fetched n).nf = s.nf := by simp [State.nf]
@[simp] theorem State.fetched_hf (n : Nat) (s : State) : (s.fetched n).hf = s.hf := by simp [State.hf]
@[simp] theorem State.fetched_cf (n : Nat) (s : State) : (s.fetched n).cf = s.cf := by simp [State.cf]
@[simp] theorem State.fetched_pending (n : Nat) (s : State) : (s.fetched n).pending = s.pending := by simp [State.pending]
@[simp] theorem State.fetched_getR8 (n : Nat) (s : State) (r : R8) : (s.fetched n).getR8 r = s.getR8 r := by
  cases r <;> simp [State.getR8]
@[simp] theorem State.fetched_getR16 (n : Nat) (s : State) (p : R16) : (s.fetched n).getR16 p = s.getR16 p := by
  cases p <;> simp [State.getR16]
@[simp] theorem State.fetched_getStk (n : Nat) (s : State) (p : R16Stk) : (s.fetched n).getStk p = s.getStk p := by
  cases p <;> simp [State.getStk]
@[simp] theorem State.fetched_memAddr (n : Nat) (s : State) (p : R16Mem) : (s.fetched n).memAddr p = s.memAddr p := by
  cases p <;> simp [State.memAddr]
@[simp] theorem State.fetched_cond (n : Nat) (s : State) (cc : Cond) : (s.fetched n).cond cc = s.cond cc := by
  cases cc <;> simp [State.cond]

/-- Without the halt bug the fetch of `n` bytes moves `PC` past them. -/
theorem State.fetched_of_noBug {s : State} (h : s.haltBug = false) (n : Nat) :
    s.fetched n = { s with pc := s.pc + BitVec.ofNat 16 n } := by
  induction n generalizing s with
  | zero => simp [State.fetched_zero]
  | succ n ih =>
    have h8 : s.fetch8.2 = { s with pc := s.pc + 1 } := by simp [State.fetch8, h]
    rw [State.fetched_succ, h8, ih (s := { s with pc := s.pc + 1 }) h]
    simp only [State.mk.injEq, true_and, and_true]
    rw [BitVec.add_assoc, BitVec.add_comm 1, BitVec.ofNat_add]
    rfl

/-- With the halt bug armed the first fetch clears it and leaves `PC` alone. -/
theorem State.fetched_of_bug {s : State} (h : s.haltBug = true) (n : Nat) :
    s.fetched (n + 1) = { s with pc := s.pc + BitVec.ofNat 16 n, haltBug := false } := by
  have h8 : s.fetch8.2 = { s with haltBug := false } := by simp [State.fetch8, h]
  rw [State.fetched_succ, h8, State.fetched_of_noBug rfl]

/-- After any fetch the halt bug is gone. -/
@[simp] theorem State.fetched_haltBug (s : State) (n : Nat) : (s.fetched (n + 1)).haltBug = false := by
  cases h : s.haltBug
  · rw [State.fetched_of_noBug h, h]
  · rw [State.fetched_of_bug h]

/-! ## One store (R61) -/

@[simp] theorem State.write_a (s : State) (addr : Word) (v : Byte) : (s.write addr v).a = s.a := by
  unfold State.write; split <;> try split
  all_goals rfl
@[simp] theorem State.write_f (s : State) (addr : Word) (v : Byte) : (s.write addr v).f = s.f := by
  unfold State.write; split <;> try split
  all_goals rfl
@[simp] theorem State.write_b (s : State) (addr : Word) (v : Byte) : (s.write addr v).b = s.b := by
  unfold State.write; split <;> try split
  all_goals rfl
@[simp] theorem State.write_c (s : State) (addr : Word) (v : Byte) : (s.write addr v).c = s.c := by
  unfold State.write; split <;> try split
  all_goals rfl
@[simp] theorem State.write_d (s : State) (addr : Word) (v : Byte) : (s.write addr v).d = s.d := by
  unfold State.write; split <;> try split
  all_goals rfl
@[simp] theorem State.write_e (s : State) (addr : Word) (v : Byte) : (s.write addr v).e = s.e := by
  unfold State.write; split <;> try split
  all_goals rfl
@[simp] theorem State.write_h (s : State) (addr : Word) (v : Byte) : (s.write addr v).h = s.h := by
  unfold State.write; split <;> try split
  all_goals rfl
@[simp] theorem State.write_l (s : State) (addr : Word) (v : Byte) : (s.write addr v).l = s.l := by
  unfold State.write; split <;> try split
  all_goals rfl
@[simp] theorem State.write_sp (s : State) (addr : Word) (v : Byte) : (s.write addr v).sp = s.sp := by
  unfold State.write; split <;> try split
  all_goals rfl
@[simp] theorem State.write_pc (s : State) (addr : Word) (v : Byte) : (s.write addr v).pc = s.pc := by
  unfold State.write; split <;> try split
  all_goals rfl
@[simp] theorem State.write_ime (s : State) (addr : Word) (v : Byte) : (s.write addr v).ime = s.ime := by
  unfold State.write; split <;> try split
  all_goals rfl
@[simp] theorem State.write_imePending (s : State) (addr : Word) (v : Byte) : (s.write addr v).imePending = s.imePending := by
  unfold State.write; split <;> try split
  all_goals rfl
@[simp] theorem State.write_haltBug (s : State) (addr : Word) (v : Byte) : (s.write addr v).haltBug = s.haltBug := by
  unfold State.write; split <;> try split
  all_goals rfl
@[simp] theorem State.write_mode (s : State) (addr : Word) (v : Byte) : (s.write addr v).mode = s.mode := by
  unfold State.write; split <;> try split
  all_goals rfl
@[simp] theorem State.write_inputs (s : State) (addr : Word) (v : Byte) : (s.write addr v).inputs = s.inputs := by
  unfold State.write; split <;> try split
  all_goals rfl

/-- No store reaches the ROM array. -/
@[simp] theorem State.write_rom (s : State) (addr : Word) (v : Byte) : (s.write addr v).mem.rom = s.mem.rom := by
  unfold State.write
  split
  · rename_i r i ho
    split
    · rename_i hw
      cases r <;> first | rfl | exact absurd hw (by decide)
    · rfl
  all_goals rfl

/-- No store reaches the boot ROM array. -/
@[simp] theorem State.write_boot (s : State) (addr : Word) (v : Byte) : (s.write addr v).mem.boot = s.mem.boot := by
  unfold State.write
  split
  · rename_i r i ho
    split
    · rename_i hw
      cases r <;> first | rfl | exact absurd hw (by decide)
    · rfl
  all_goals rfl

/-- No store maps the boot ROM again. -/
theorem State.write_bootMapped_le (s : State) (addr : Word) (v : Byte) (h : (s.write addr v).bootMapped = true) :
    s.bootMapped = true := by
  unfold State.write at h
  split at h
  · split at h <;> exact h
  · exact h
  · simp only [Bool.and_eq_true] at h; exact h.1
  · exact h
  · exact h

/-- A store does not depend on the registers: it commutes with an update of `SP`. -/
theorem State.write_with_sp (s : State) (x addr : Word) (v : Byte) :
    { s with sp := x }.write addr v = { s.write addr v with sp := x } := by
  unfold State.write State.owner; dsimp only; split <;> try split
  all_goals rfl

theorem State.write_with_pc (s : State) (x addr : Word) (v : Byte) :
    { s with pc := x }.write addr v = { s.write addr v with pc := x } := by
  unfold State.write State.owner; dsimp only; split <;> try split
  all_goals rfl

/-! ## What every operation keeps -/

/-- What every store and every register write keeps: the read-only arrays, the host's inputs, an overlay that is off, the
canonical form of memory, and the four control bits only the system instructions write. -/
structure Keeps (s t : State) : Prop where
  rom : t.mem.rom = s.mem.rom
  boot : t.mem.boot = s.mem.boot
  inputs : t.inputs = s.inputs
  overlay : t.bootMapped = true → s.bootMapped = true
  memWf : s.mem.wf = true → t.mem.wf = true
  flags : s.f &&& 0x0F = 0 → t.f &&& 0x0F = 0
  ime : t.ime = s.ime
  imePending : t.imePending = s.imePending
  haltBug : t.haltBug = s.haltBug
  mode : t.mode = s.mode

theorem Keeps.refl (s : State) : Keeps s s := ⟨rfl, rfl, rfl, id, id, id, rfl, rfl, rfl, rfl⟩

theorem Keeps.trans {s t u : State} (h : Keeps s t) (k : Keeps t u) : Keeps s u where
  rom := k.rom.trans h.rom
  boot := k.boot.trans h.boot
  inputs := k.inputs.trans h.inputs
  overlay := fun x => h.overlay (k.overlay x)
  memWf := fun x => k.memWf (h.memWf x)
  flags := fun x => k.flags (h.flags x)
  ime := k.ime.trans h.ime
  imePending := k.imePending.trans h.imePending
  haltBug := k.haltBug.trans h.haltBug
  mode := k.mode.trans h.mode

theorem State.write_keeps (s : State) (addr : Word) (v : Byte) : Keeps s (s.write addr v) where
  rom := by simp
  boot := by simp
  inputs := by simp
  overlay := State.write_bootMapped_le s addr v
  memWf := fun h => State.write_memWf h addr v
  flags := by simp
  ime := by simp
  imePending := by simp
  haltBug := by simp
  mode := by simp

theorem State.setFlags_keeps (s : State) (z n h c : Bool) : Keeps s (s.setFlags z n h c) :=
  ⟨rfl, rfl, rfl, id, id, fun _ => packF_clean z n h c, rfl, rfl, rfl, rfl⟩

/-- A pair written over two registers keeps the rest. -/
theorem State.setBC_keeps (s : State) (w : Word) : Keeps s (s.setBC w) := ⟨rfl, rfl, rfl, id, id, id, rfl, rfl, rfl, rfl⟩
theorem State.setDE_keeps (s : State) (w : Word) : Keeps s (s.setDE w) := ⟨rfl, rfl, rfl, id, id, id, rfl, rfl, rfl, rfl⟩
theorem State.setHL_keeps (s : State) (w : Word) : Keeps s (s.setHL w) := ⟨rfl, rfl, rfl, id, id, id, rfl, rfl, rfl, rfl⟩
theorem State.setAF_keeps (s : State) (w : Word) : Keeps s (s.setAF w) :=
  ⟨rfl, rfl, rfl, id, id, fun _ => by rw [State.setAF_f, BitVec.and_assoc]; exact BitVec.and_zero, rfl, rfl, rfl, rfl⟩
theorem State.setA_keeps (s : State) (v : Byte) : Keeps s { s with a := v } := ⟨rfl, rfl, rfl, id, id, id, rfl, rfl, rfl, rfl⟩
theorem State.setSP_keeps (s : State) (w : Word) : Keeps s { s with sp := w } := ⟨rfl, rfl, rfl, id, id, id, rfl, rfl, rfl, rfl⟩
theorem State.setPC_keeps (s : State) (w : Word) : Keeps s { s with pc := w } := ⟨rfl, rfl, rfl, id, id, id, rfl, rfl, rfl, rfl⟩

theorem State.setR8_keeps (s : State) (r : R8) (v : Byte) : Keeps s (s.setR8 r v) := by
  cases r <;> first | exact State.write_keeps s s.hl v | exact ⟨rfl, rfl, rfl, id, id, id, rfl, rfl, rfl, rfl⟩

theorem State.setR16_keeps (s : State) (p : R16) (w : Word) : Keeps s (s.setR16 p w) := by
  cases p <;> exact ⟨rfl, rfl, rfl, id, id, id, rfl, rfl, rfl, rfl⟩

theorem State.setStk_keeps (s : State) (p : R16Stk) (w : Word) : Keeps s (s.setStk p w) := by
  cases p <;> first | exact State.setAF_keeps s w | exact ⟨rfl, rfl, rfl, id, id, id, rfl, rfl, rfl, rfl⟩

theorem State.memStep_keeps (s : State) (p : R16Mem) : Keeps s (s.memStep p) := by
  cases p <;> first | exact Keeps.refl s | exact State.setHL_keeps s _

theorem State.push16_keeps (s : State) (w : Word) : Keeps s (s.push16 w) :=
  ((State.setSP_keeps s _).trans (State.write_keeps _ _ _)).trans ((State.setSP_keeps _ _).trans (State.write_keeps _ _ _))

theorem State.pop16_keeps (s : State) : Keeps s s.pop16.2 := (State.setSP_keeps s _).trans (State.setSP_keeps _ _)

theorem State.callTo_keeps (s : State) (target : Word) : Keeps s (s.callTo target) :=
  (State.push16_keeps s _).trans (State.setPC_keeps _ _)

theorem State.returnFromCall_keeps (s : State) : Keeps s s.returnFromCall :=
  (State.pop16_keeps s).trans (State.setPC_keeps _ _)

theorem State.write16_keeps (s : State) (addr w : Word) : Keeps s (s.write16 addr w) :=
  (State.write_keeps s _ _).trans (State.write_keeps _ _ _)

/-! ## One register write (R104) -/

/-- A written register reads back. -/
theorem State.getR8_setR8_self (s : State) {r : R8} (h : r ≠ .mHL) (v : Byte) : (s.setR8 r v).getR8 r = v := by
  cases r <;> first | rfl | exact absurd rfl h

/-- Writing one register, or the byte at `HL`, leaves every other register alone. -/
theorem State.getR8_setR8_ne (s : State) {r q : R8} (hq : q ≠ .mHL) (h : q ≠ r) (v : Byte) :
    (s.setR8 r v).getR8 q = s.getR8 q := by
  cases r <;> cases q <;> first | rfl | exact absurd rfl h | exact absurd rfl hq | simp [State.setR8, State.getR8]

@[simp] theorem State.setR8_sp (s : State) (r : R8) (v : Byte) : (s.setR8 r v).sp = s.sp := by cases r <;> simp [State.setR8]
@[simp] theorem State.setR8_pc (s : State) (r : R8) (v : Byte) : (s.setR8 r v).pc = s.pc := by cases r <;> simp [State.setR8]
@[simp] theorem State.setR8_f (s : State) (r : R8) (v : Byte) : (s.setR8 r v).f = s.f := by cases r <;> simp [State.setR8]

/-- Writing a register (not the byte at `HL`) changes no byte of memory. -/
theorem State.setR8_read (s : State) {r : R8} (h : r ≠ .mHL) (v : Byte) (addr : Word) :
    (s.setR8 r v).read addr = s.read addr := by
  cases r <;> first | exact State.read_congr rfl rfl rfl rfl addr | exact absurd rfl h

/-! ## The stack (R13) -/

/-- A push is two stores, the high byte first, below `SP`. -/
theorem State.push16_eq (s : State) (w : Word) :
    s.push16 w = { (s.write (s.sp - 1) (hi w)).write (s.sp - 1 - 1) (lo w) with sp := s.sp - 1 - 1 } := by
  simp only [State.push16, State.write_with_sp]

@[simp] theorem State.push16_sp (s : State) (w : Word) : (s.push16 w).sp = s.sp - 1 - 1 := by rw [State.push16_eq]

@[simp] theorem State.push16_a (s : State) (w : Word) : (s.push16 w).a = s.a := by simp [State.push16_eq]
@[simp] theorem State.push16_f (s : State) (w : Word) : (s.push16 w).f = s.f := by simp [State.push16_eq]
@[simp] theorem State.push16_b (s : State) (w : Word) : (s.push16 w).b = s.b := by simp [State.push16_eq]
@[simp] theorem State.push16_c (s : State) (w : Word) : (s.push16 w).c = s.c := by simp [State.push16_eq]
@[simp] theorem State.push16_d (s : State) (w : Word) : (s.push16 w).d = s.d := by simp [State.push16_eq]
@[simp] theorem State.push16_e (s : State) (w : Word) : (s.push16 w).e = s.e := by simp [State.push16_eq]
@[simp] theorem State.push16_h (s : State) (w : Word) : (s.push16 w).h = s.h := by simp [State.push16_eq]
@[simp] theorem State.push16_l (s : State) (w : Word) : (s.push16 w).l = s.l := by simp [State.push16_eq]
@[simp] theorem State.push16_pc (s : State) (w : Word) : (s.push16 w).pc = s.pc := by simp [State.push16_eq]

/-- A pop reads the low byte at `SP` and the high byte above it. -/
theorem State.pop16_fst (s : State) : s.pop16.1 = join (s.read (s.sp + 1)) (s.read s.sp) := rfl

theorem State.pop16_snd (s : State) : s.pop16.2 = { s with sp := s.sp + 1 + 1 } := rfl

/-! ## The dispatch (R404) -/

/-- The dispatch masks interrupts, keeps the registers but `SP` and `PC`, and keeps the rest as a store does. -/
theorem State.dispatch_keeps (s : State) :
    Keeps { s with iflag := s.iflag &&& ~~~((1 : BitVec 5) <<< lowestPending s.pending), ime := false, imePending := false }
      s.dispatch :=
  (State.push16_keeps _ _).trans (State.setPC_keeps _ _)

theorem lowestPending_lt (p : BitVec 5) : lowestPending p < 5 := by
  unfold lowestPending
  repeat' split
  all_goals decide

end Sys2Proof.Machine
end

