-- ==== Sys2Proof/Laws/Meanings.lean ====
section
/-! SUPPORT. One lemma per shared operation of the families: it keeps what every operation keeps (`Keeps`). A system operation
that writes a control bit is given by its equation instead. -/

namespace Sys2Proof.Machine

/-- An instruction that completes answers a next state, and no other outcome. -/
theorem complete_next {n : Nat} {operation : State → State} {s t : State} (h : complete n operation s = .next t) :
    t = operation (s.fetched n) := by
  cases h; rfl

/-! ## Loads -/

theorem ldR8_keeps (d r : R8) (s : State) : Keeps s (ldR8 d r s) := State.setR8_keeps s d _
theorem ldImm_keeps (d : R8) (n : Byte) (s : State) : Keeps s (ldImm d n s) := State.setR8_keeps s d n
theorem loadA_keeps (addr : Word) (s : State) : Keeps s (loadA addr s) := State.setA_keeps s _
theorem storeA_keeps (addr : Word) (s : State) : Keeps s (storeA addr s) := State.write_keeps s addr _
theorem loadMem_keeps (p : R16Mem) (s : State) : Keeps s (loadMem p s) :=
  (loadA_keeps _ s).trans (State.memStep_keeps _ p)
theorem storeMem_keeps (p : R16Mem) (s : State) : Keeps s (storeMem p s) :=
  (storeA_keeps _ s).trans (State.memStep_keeps _ p)
theorem ldPair_keeps (p : R16) (nn : Word) (s : State) : Keeps s (ldPair p nn s) := State.setR16_keeps s p nn
theorem storeSP_keeps (nn : Word) (s : State) : Keeps s (storeSP nn s) := State.write16_keeps s nn _
theorem ldSPHL_keeps (s : State) : Keeps s (ldSPHL s) := State.setSP_keeps s _
theorem push_keeps (p : R16Stk) (s : State) : Keeps s (push p s) := State.push16_keeps s _
theorem pop_keeps (p : R16Stk) (s : State) : Keeps s (pop p s) :=
  (State.pop16_keeps s).trans (State.setStk_keeps _ p _)

/-! ## Arithmetic and logic -/

theorem addOp_keeps (c : Nat) (v : Byte) (s : State) : Keeps s (addOp c v s) :=
  (State.setA_keeps s _).trans (State.setFlags_keeps _ _ _ _ _)
theorem subOp_keeps (c : Nat) (v : Byte) (s : State) : Keeps s (subOp c v s) :=
  (State.setA_keeps s _).trans (State.setFlags_keeps _ _ _ _ _)
theorem andOp_keeps (v : Byte) (s : State) : Keeps s (andOp v s) :=
  (State.setA_keeps s _).trans (State.setFlags_keeps _ _ _ _ _)
theorem xorOp_keeps (v : Byte) (s : State) : Keeps s (xorOp v s) :=
  (State.setA_keeps s _).trans (State.setFlags_keeps _ _ _ _ _)
theorem orOp_keeps (v : Byte) (s : State) : Keeps s (orOp v s) :=
  (State.setA_keeps s _).trans (State.setFlags_keeps _ _ _ _ _)
theorem cpOp_keeps (v : Byte) (s : State) : Keeps s (cpOp v s) := State.setFlags_keeps s _ _ _ _

theorem aluOp_keeps (op : AluOp) (v : Byte) (s : State) : Keeps s (aluOp op v s) := by
  cases op
  · exact addOp_keeps _ v s
  · exact addOp_keeps _ v s
  · exact subOp_keeps _ v s
  · exact subOp_keeps _ v s
  · exact andOp_keeps v s
  · exact xorOp_keeps v s
  · exact orOp_keeps v s
  · exact cpOp_keeps v s

theorem aluReg_keeps (op : AluOp) (r : R8) (s : State) : Keeps s (aluReg op r s) := aluOp_keeps op _ s
theorem incOp_keeps (d : R8) (s : State) : Keeps s (incOp d s) :=
  (State.setR8_keeps s d _).trans (State.setFlags_keeps _ _ _ _ _)
theorem decOp_keeps (d : R8) (s : State) : Keeps s (decOp d s) :=
  (State.setR8_keeps s d _).trans (State.setFlags_keeps _ _ _ _ _)

theorem daaOp_keeps (s : State) : Keeps s (daaOp s) := by
  unfold daaOp
  split <;> exact (State.setA_keeps s _).trans (State.setFlags_keeps _ _ _ _ _)

theorem cplOp_keeps (s : State) : Keeps s (cplOp s) := (State.setA_keeps s _).trans (State.setFlags_keeps _ _ _ _ _)
theorem scfOp_keeps (s : State) : Keeps s (scfOp s) := State.setFlags_keeps s _ _ _ _
theorem ccfOp_keeps (s : State) : Keeps s (ccfOp s) := State.setFlags_keeps s _ _ _ _
theorem addHL_keeps (p : R16) (s : State) : Keeps s (addHL p s) :=
  (State.setHL_keeps s _).trans (State.setFlags_keeps _ _ _ _ _)
theorem incPair_keeps (p : R16) (s : State) : Keeps s (incPair p s) := State.setR16_keeps s p _
theorem decPair_keeps (p : R16) (s : State) : Keeps s (decPair p s) := State.setR16_keeps s p _
theorem addSP_keeps (e : Byte) (s : State) : Keeps s (addSP e s) :=
  (State.setSP_keeps s _).trans (State.setFlags_keeps _ _ _ _ _)
theorem ldHLSP_keeps (e : Byte) (s : State) : Keeps s (ldHLSP e s) :=
  (State.setHL_keeps s _).trans (State.setFlags_keeps _ _ _ _ _)

/-! ## Rotates, shifts, bits -/

theorem rotA_keeps (op : RotOp) (s : State) : Keeps s (rotA op s) :=
  (State.setA_keeps s _).trans (State.setFlags_keeps _ _ _ _ _)
theorem rotOp_keeps (op : RotOp) (o : R8) (s : State) : Keeps s (rotOp op o s) :=
  (State.setR8_keeps s o _).trans (State.setFlags_keeps _ _ _ _ _)
theorem bitOp_keeps (n : Nat) (o : R8) (s : State) : Keeps s (bitOp n o s) := State.setFlags_keeps s _ _ _ _
theorem resOp_keeps (n : Nat) (o : R8) (s : State) : Keeps s (resOp n o s) := State.setR8_keeps s o _
theorem setOp_keeps (n : Nat) (o : R8) (s : State) : Keeps s (setOp n o s) := State.setR8_keeps s o _

theorem cbOperation_keeps (op2 : Byte) (s : State) : Keeps s (cbOperation op2 s) := by
  unfold cbOperation
  dsimp only
  split
  · exact rotOp_keeps _ _ s
  · exact bitOp_keeps _ _ s
  · exact resOp_keeps _ _ s
  · exact setOp_keeps _ _ s

/-! ## Control transfer -/

theorem jump_keeps (target : Word) (s : State) : Keeps s (jump target s) := State.setPC_keeps s target
theorem jumpRel_keeps (e : Byte) (s : State) : Keeps s (jumpRel e s) := State.setPC_keeps s _
theorem call_keeps (target : Word) (s : State) : Keeps s (call target s) := State.callTo_keeps s target
theorem ret_keeps (s : State) : Keeps s (ret s) := State.returnFromCall_keeps s

theorem when_keeps (cc : Cond) {operation : State → State} (s : State) (h : Keeps s (operation s)) :
    Keeps s (when cc operation s) := by
  unfold when
  split
  · exact h
  · exact Keeps.refl s

/-- The return from an interrupt is the return from a call with `IME` set at once (R300). -/
theorem returnFromInterrupt_eq (s : State) : s.returnFromInterrupt = { ret s with ime := true } := rfl

/-! ## System -/

/-- R321: `HALT` writes the mode or the halt bug, and nothing else. -/
theorem haltOp_eq (s : State) :
    haltOp s = { s with mode := (haltOp s).mode, haltBug := (haltOp s).haltBug } := by
  unfold haltOp
  repeat' split
  all_goals rfl

theorem stopOp_eq (s : State) : stopOp s = { s with mode := .stopped } := rfl
theorem diOp_eq (s : State) : diOp s = { s with ime := false, imePending := false } := rfl
theorem eiOp_eq (s : State) : eiOp s = { s with imePending := true } := rfl

end Sys2Proof.Machine
end

