-- ==== Sys2Proof/Laws/Families.lean ====
section
/-! SUPPORT. What `exec` does with an instruction of each group of spec/30_encoding.md R113 and R115, said once for all its
operands: the shared operation it completes with. Proofs cite these and never take `exec` apart again. -/

namespace Sys2Proof.Machine

/-! ## Loads (R140 to R148, R155 to R158, R170, R173 to R175) -/

theorem exec_ldR8R8 {d r : R8} (h : ¬ (d = .mHL ∧ r = .mHL)) (s : State) :
    exec (ldR8R8 d r) s = complete 1 (ldR8 d r) s := by
  cases d <;> cases r <;> first | rfl | exact absurd ⟨rfl, rfl⟩ h

theorem exec_ldR8Imm (d : R8) (n : Byte) (s : State) : exec (ldR8Imm d n) s = complete 2 (ldImm d n) s := by
  cases d <;> rfl

theorem exec_loadAMem (p : R16Mem) (s : State) : exec (loadAMem p) s = complete 1 (loadMem p) s := by
  cases p <;> rfl

theorem exec_storeAMem (p : R16Mem) (s : State) : exec (storeAMem p) s = complete 1 (storeMem p) s := by
  cases p <;> rfl

theorem exec_ldR16Imm (p : R16) (nn : Word) (s : State) : exec (ldR16Imm p nn) s = complete 3 (ldPair p nn) s := by
  cases p <;> rfl

theorem exec_pushR16 (p : R16Stk) (s : State) : exec (pushR16 p) s = complete 1 (push p) s := by
  cases p <;> rfl

theorem exec_popR16 (p : R16Stk) (s : State) : exec (popR16 p) s = complete 1 (pop p) s := by
  cases p <;> rfl

/-! ## Arithmetic and logic (R190 to R202, R230 to R232) -/

theorem exec_aluR8 (op : AluOp) (r : R8) (s : State) : exec (aluR8 op r) s = complete 1 (aluReg op r) s := by
  cases op <;> cases r <;> rfl

theorem exec_aluImm (op : AluOp) (n : Byte) (s : State) : exec (aluImm op n) s = complete 2 (aluOp op n) s := by
  cases op <;> rfl

theorem exec_incR8 (d : R8) (s : State) : exec (incR8 d) s = complete 1 (incOp d) s := by
  cases d <;> rfl

theorem exec_decR8 (d : R8) (s : State) : exec (decR8 d) s = complete 1 (decOp d) s := by
  cases d <;> rfl

theorem exec_addHlR16 (p : R16) (s : State) : exec (addHlR16 p) s = complete 1 (addHL p) s := by
  cases p <;> rfl

theorem exec_incR16 (p : R16) (s : State) : exec (incR16 p) s = complete 1 (incPair p) s := by
  cases p <;> rfl

theorem exec_decR16 (p : R16) (s : State) : exec (decR16 p) s = complete 1 (decPair p) s := by
  cases p <;> rfl

/-! ## The second page (R255 to R265); a bit number above 7 names bit 7 -/

theorem exec_rotR8 (op : RotOp) (o : R8) (s : State) : exec (rotR8 op o) s = complete 2 (rotOp op o) s := by
  cases op <;> cases o <;> rfl

theorem exec_bitR8 (n : Nat) (o : R8) (s : State) : exec (bitR8 n o) s = complete 2 (bitOp (min n 7) o) s := by
  match n with
  | 0 | 1 | 2 | 3 | 4 | 5 | 6 => cases o <;> rfl
  | k + 7 => rw [Nat.min_eq_right (by omega)]; cases o <;> rfl

theorem exec_resR8 (n : Nat) (o : R8) (s : State) : exec (resR8 n o) s = complete 2 (resOp (min n 7) o) s := by
  match n with
  | 0 | 1 | 2 | 3 | 4 | 5 | 6 => cases o <;> rfl
  | k + 7 => rw [Nat.min_eq_right (by omega)]; cases o <;> rfl

theorem exec_setR8 (n : Nat) (o : R8) (s : State) : exec (setR8 n o) s = complete 2 (setOp (min n 7) o) s := by
  match n with
  | 0 | 1 | 2 | 3 | 4 | 5 | 6 => cases o <;> rfl
  | k + 7 => rw [Nat.min_eq_right (by omega)]; cases o <;> rfl

/-! ## Control transfer (R292, R295, R297, R299, R301) -/

theorem exec_jpCond (cc : Cond) (nn : Word) (s : State) : exec (jpCond cc nn) s = complete 3 (when cc (jump nn)) s := by
  cases cc <;> rfl

theorem exec_jrCond (cc : Cond) (e : Byte) (s : State) : exec (jrCond cc e) s = complete 2 (when cc (jumpRel e)) s := by
  cases cc <;> rfl

theorem exec_callCond (cc : Cond) (nn : Word) (s : State) : exec (callCond cc nn) s = complete 3 (when cc (call nn)) s := by
  cases cc <;> rfl

theorem exec_retCond (cc : Cond) (s : State) : exec (retCond cc) s = complete 1 (when cc ret) s := by
  cases cc <;> rfl

theorem exec_rstTo (y : Nat) (s : State) :
    exec (rstTo y) s = complete 1 (call (BitVec.ofNat 16 (8 * min y 7))) s := by
  match y with
  | 0 | 1 | 2 | 3 | 4 | 5 | 6 => rfl
  | k + 7 => rw [Nat.min_eq_right (by omega)]; rfl

end Sys2Proof.Machine
end

