-- ==== Sys2Proof/Laws/Phases.lean ====
section
/-! SUPPORT. What the phases of a step can do, said once: the inversion of a step, and the small lemmas of each phase. -/

namespace Sys2Proof.Machine

/-! ## Reading the instruction at `PC` -/

/-- Without the halt bug the three bytes read are those from `PC` on. -/
theorem State.fetchBytes3_of_noBug {s : State} (h : s.haltBug = false) :
    (s.fetchBytes 3).1 = [s.read s.pc, s.read (s.pc + 1), s.read (s.pc + 1 + 1)] := by
  simp only [State.fetchBytes, State.fetch8, h]
  rfl

/-- With the halt bug armed the byte at `PC` is read twice. -/
theorem State.fetchBytes3_of_bug {s : State} (h : s.haltBug = true) :
    (s.fetchBytes 3).1 = [s.read s.pc, s.read s.pc, s.read (s.pc + 1)] := by
  simp only [State.fetchBytes, State.fetch8, h]
  rfl

theorem State.nextInstr_of_noBug {s : State} (h : s.haltBug = false) :
    s.nextInstr = decodeBytes (s.read s.pc) (s.read (s.pc + 1)) (s.read (s.pc + 1 + 1)) := by
  simp only [State.nextInstr, State.fetchBytes3_of_noBug h]
  rfl

theorem State.nextInstr_of_bug {s : State} (h : s.haltBug = true) :
    s.nextInstr = decodeBytes (s.read s.pc) (s.read s.pc) (s.read (s.pc + 1)) := by
  simp only [State.nextInstr, State.fetchBytes3_of_bug h]
  rfl

/-! ## The phases -/

@[simp] theorem State.latch_none (s : State) : s.latch 0 = s := by
  simp [State.latch]

/-- Waking changes the mode only, and to `Running`. -/
theorem State.wakeUp_some {wake : Bool} {s t : State} (h : s.wakeUp wake = some t) : t = { s with mode := .running } := by
  unfold State.wakeUp at h
  split at h
  · rename_i hm; cases h; rw [← hm]
  · split at h
    · cases h; rfl
    · cases h
  · split at h
    · cases h; rfl
    · cases h

/-- No dispatch and no pending `EI`: the state is ready as it is. -/
theorem State.ready_of_idle {s : State} (hd : s.dispatchDue = false) (hp : s.imePending = false) : s.ready = s := by
  simp [State.ready, State.interruptPhase, State.commitEI, hd, hp]

/-- A dispatch clears the pending `EI`, so the state after it is ready. -/
theorem State.ready_of_dispatch {s : State} (hd : s.dispatchDue = true) : s.ready = s.dispatch := by
  have : s.dispatch.imePending = false := s.dispatch_keeps.imePending
  simp [State.ready, State.interruptPhase, State.commitEI, hd, this]

/-- A delayed enable takes effect when no dispatch is due. -/
theorem State.ready_of_pendingEI {s : State} (hd : s.dispatchDue = false) (hp : s.imePending = true) :
    s.ready = { s with ime := true, imePending := false } := by
  simp [State.ready, State.interruptPhase, State.commitEI, hd, hp]

/-- Every ready state is the state itself, the dispatched one, or the one with the delayed enable applied. -/
theorem State.ready_cases (s : State) :
    (s.dispatchDue = false ∧ s.imePending = false ∧ s.ready = s) ∨
    (s.dispatchDue = true ∧ s.ready = s.dispatch) ∨
    (s.dispatchDue = false ∧ s.imePending = true ∧ s.ready = { s with ime := true, imePending := false }) := by
  cases hd : s.dispatchDue
  · cases hp : s.imePending
    · exact Or.inl ⟨rfl, rfl, State.ready_of_idle hd hp⟩
    · exact Or.inr (Or.inr ⟨rfl, rfl, State.ready_of_pendingEI hd hp⟩)
  · exact Or.inr (Or.inl ⟨rfl, State.ready_of_dispatch hd⟩)

/-! ## The step -/

/-- A step that answers a next state was an idle one, or executed exactly one instruction in the ready state. -/
theorem stepWith_next {inp : StepInput} {s t : State} {n : Nat} (h : stepWith inp s = .next (t, n)) :
    ((s.latch inp.irq).wakeUp inp.wake = none ∧ t = s.latch inp.irq ∧ n = 1) ∨
    (∃ s1, (s.latch inp.irq).wakeUp inp.wake = some s1 ∧ exec s1.ready.nextInstr s1.ready = .next t ∧
      n = (if s1.dispatchDue then Config.dispatchCycles else 0) + cycles s1.ready.nextInstr s1.ready) := by
  unfold stepWith at h
  dsimp only at h
  split at h
  · rename_i hw
    cases h
    exact Or.inl ⟨hw, rfl, rfl⟩
  · rename_i s1 hw
    split at h
    · rename_i t' he
      cases h
      exact Or.inr ⟨s1, hw, he, rfl⟩
    · cases h
    · cases h

/-- A step that faults executed an instruction that faults in the ready state. -/
theorem stepWith_fault {inp : StepInput} {s : State} {r : Fault} (h : stepWith inp s = .fault r) :
    ∃ s1, (s.latch inp.irq).wakeUp inp.wake = some s1 ∧ exec s1.ready.nextInstr s1.ready = .fault r := by
  unfold stepWith at h
  dsimp only at h
  split at h
  · cases h
  · rename_i s1 hw
    split at h
    · cases h
    · rename_i r' he
      cases h
      exact ⟨s1, hw, he⟩
    · cases h

/-- A step that refuses executed an instruction that is refused in the ready state. -/
theorem stepWith_refused {inp : StepInput} {s : State} {r : Refusal} (h : stepWith inp s = .refused r) :
    ∃ s1, (s.latch inp.irq).wakeUp inp.wake = some s1 ∧ exec s1.ready.nextInstr s1.ready = .refused r := by
  unfold stepWith at h
  dsimp only at h
  split at h
  · cases h
  · rename_i s1 hw
    split at h
    · cases h
    · cases h
    · rename_i r' he
      cases h
      exact ⟨s1, hw, he⟩

/-- `step` is `stepTimed` without the cycle count. -/
theorem step_next_iff {s t : State} : step s = .next t ↔ ∃ n, stepTimed s = .next (t, n) := by
  unfold step stepState
  constructor
  · intro h
    split at h
    · rename_i t' n he
      cases h
      exact ⟨n, he⟩
    · cases h
    · cases h
  · rintro ⟨n, he⟩
    rw [he]

/-! ## A placed word -/

/-- Placing a byte keeps the canonical form. -/
theorem State.place_memWf {s : State} (h : s.mem.wf = true) (addr : Word) (v : Byte) : (s.place addr v).mem.wf = true := by
  unfold State.place
  split
  · rename_i r i ho
    exact Memory.wf_put h v (ownerOf_cell ho).1 (ownerOf_cell ho).2
  · exact h
  · exact Memory.wf_put h v (by decide) (Or.inr (by decide))
  · exact h
  · exact h

theorem State.placeBytes_memWf {s : State} (h : s.mem.wf = true) (b0 b1 b2 : Byte) : (s.placeBytes b0 b1 b2).mem.wf = true := by
  unfold State.placeBytes
  dsimp only
  refine State.place_memWf (State.place_memWf (State.place_memWf ?_ _ _) _ _) _ _
  exact h

theorem State.withFetchWord_memWf {s : State} (h : s.mem.wf = true) (nbits w : Nat) : (s.withFetchWord nbits w).mem.wf = true := by
  unfold State.withFetchWord
  exact State.placeBytes_memWf h _ _ _

end Sys2Proof.Machine
end

