-- ==== Sys2Proof/Laws/Snapshot.lean ====
section
/-! SUPPORT. The memory image of a snapshot, part by part: its length, and what stands in it (spec/47_snapshot_codec.md R344). -/

namespace Sys2Proof.Machine

/-- The middle one of three parts is the slice at its offset. -/
theorem slice_mid {A B C : List Byte} {n k : Nat} (hn : A.length = n) (hk : B.length = k) : slice (A ++ (B ++ C)) n k = B := by
  subst hn hk; simp [slice]

/-- The byte that follows a part stands at the length of the part. -/
theorem getD_mid {A C : List Byte} {n : Nat} {v : Byte} (hn : A.length = n) : (A ++ (v :: C)).getD n 0 = v := by
  subst hn; simp

@[simp] theorem Memory.bytes_length (m : Memory) (r : Region) : (m.bytes r).length = r.size := by simp [Memory.bytes, Cells.bytes]

/-- One byte for each bus address. -/
theorem State.image_length (s : State) : s.image.length = 0x10000 := by
  simp only [State.image, List.length_append, List.length_replicate, List.length_take, List.length_drop, Memory.bytes_length, Region.size, List.length_cons, List.length_nil]
  decide

/-- The echo holds the first 0x1E00 bytes of work RAM again. -/
theorem State.image_echo (s : State) : slice s.image 0xE000 0x1E00 = slice s.image 0xC000 0x1E00 := by
  have h1 : slice s.image 0xE000 0x1E00 = (s.mem.bytes .wram).take 0x1E00 := by
    simp only [State.image, List.append_assoc]
    simp only [← List.append_assoc (s.mem.bytes .rom) (s.mem.bytes .vram)]
    simp only [← List.append_assoc (s.mem.bytes .rom ++ s.mem.bytes .vram) (List.replicate 0x2000 Config.openBus)]
    rw [← List.append_assoc _ (s.mem.bytes .wram)]
    refine slice_mid ?_ ?_
    · simp only [List.length_append, List.length_replicate, Memory.bytes_length, Region.size]
    · simp only [List.length_take, Memory.bytes_length, Region.size]; decide
  have h2 : slice s.image 0xC000 0x1E00 = (s.mem.bytes .wram).take 0x1E00 := by
    conv_lhs => rw [State.image, ← List.take_append_drop 0x1E00 (s.mem.bytes .wram)]
    simp only [List.append_assoc]
    simp only [← List.append_assoc (s.mem.bytes .rom) (s.mem.bytes .vram)]
    rw [← List.append_assoc _ (List.replicate 0x2000 Config.openBus)]
    refine slice_mid ?_ ?_
    · simp only [List.length_append, List.length_replicate, Memory.bytes_length, Region.size]
    · simp only [List.length_take, Memory.bytes_length, Region.size]; decide
  rw [h1, h2]
/-- The two unmapped windows hold the sentinel. -/
theorem State.image_open_bus (s : State) : slice s.image 0xA000 0x2000 = List.replicate 0x2000 Config.openBus ∧
    slice s.image 0xFEA0 0x60 = List.replicate 0x60 Config.openBus := by
  constructor
  · simp only [State.image, List.append_assoc]
    rw [← List.append_assoc (s.mem.bytes .rom) (s.mem.bytes .vram)]
    refine slice_mid ?_ ?_
    · simp only [List.length_append, Memory.bytes_length, Region.size]
    · simp only [List.length_replicate]
  · rw [State.image]
    simp only [List.append_assoc (_ ++ List.replicate 0x60 Config.openBus)]
    rw [List.append_assoc _ (List.replicate 0x60 Config.openBus)]
    refine slice_mid ?_ ?_
    · simp only [List.length_append, List.length_replicate, List.length_take, Memory.bytes_length, Region.size]; decide
    · simp only [List.length_replicate]

/-- `IF` and `IE` stand at their addresses. -/
theorem State.image_registers (s : State) : s.image.getD 0xFF0F 0 = s.ifByte ∧ s.image.getD 0xFFFF 0 = s.ie := by
  constructor
  · rw [State.image, List.append_assoc _ (s.mem.bytes .hram), List.append_assoc _ ((s.mem.bytes .io).drop 0x10),
      List.append_assoc _ [s.ifByte]]
    refine getD_mid ?_
    simp only [List.length_append, List.length_replicate, List.length_take, Memory.bytes_length, Region.size]; decide
  · rw [State.image]
    refine getD_mid ?_
    simp only [List.length_append, List.length_replicate, List.length_take, List.length_drop, Memory.bytes_length, Region.size, List.length_cons, List.length_nil]; decide

end Sys2Proof.Machine
end

