-- ==== Sys2Proof/Tests/Slice0.lean ====
section
/-! SUPPORT. The model's own tests: what WellFormed refuses, every row's decoding from a word written out from the spec's
encoding, single steps from the vectors of spec/95_test_vectors.md, and a witness for the hypotheses of each obligation. -/

open Sys2Proof Sys2Proof.Machine

namespace Sys2Proof.Tests

/-! ## What WellFormed refuses (R116, R118) -/

theorem test_illegal_byte_is_ill_formed : ¬ Instr.illegal_D3.WellFormed := by decide

theorem test_all_eleven_are_ill_formed : [Instr.illegal_D3, .illegal_DB, .illegal_DD, .illegal_E3, .illegal_E4, .illegal_EB,
    .illegal_EC, .illegal_ED, .illegal_F4, .illegal_FC, .illegal_FD].all (fun i => ¬ i.WellFormed) = true := by decide

theorem test_prefix_row_is_ill_formed : ¬ (Instr.prefix_CB 0x37).WellFormed := by decide

theorem test_instructions_are_well_formed :
    Instr.nop.WellFormed ∧ (Instr.jp_nn 0x1234).WellFormed ∧ Instr.set_7_A.WellFormed := by decide

/-! ## Decoding (spec/30_encoding.md R113 to R116): the opcode byte of every row, bit by bit, with the bytes 0x34 0x12 after it -/

theorem test_decode_op_0 : [
    0b00000000, 0b00000001, 0b00000010, 0b00000011, 0b00000100, 0b00000101, 0b00000110, 0b00000111, 0b00001000,
    0b00001001, 0b00001010, 0b00001011, 0b00001100, 0b00001101, 0b00001110, 0b00001111].map (fun w : Byte => decodeBytes w 0x34 0x12) = [
    .nop, .ld_BC_nn 0x1234, .ld_mBC_A, .inc_BC, .inc_B, .dec_B, .ld_B_n 0x34, .rlca, .ld_mnn_SP 0x1234, .add_HL_BC,
    .ld_A_mBC, .dec_BC, .inc_C, .dec_C, .ld_C_n 0x34, .rrca] := by decide

theorem test_decode_op_1 : [
    0b00010000, 0b00010001, 0b00010010, 0b00010011, 0b00010100, 0b00010101, 0b00010110, 0b00010111, 0b00011000,
    0b00011001, 0b00011010, 0b00011011, 0b00011100, 0b00011101, 0b00011110, 0b00011111].map (fun w : Byte => decodeBytes w 0x34 0x12) = [
    .stop 0x34, .ld_DE_nn 0x1234, .ld_mDE_A, .inc_DE, .inc_D, .dec_D, .ld_D_n 0x34, .rla, .jr_e 0x34, .add_HL_DE,
    .ld_A_mDE, .dec_DE, .inc_E, .dec_E, .ld_E_n 0x34, .rra] := by decide

theorem test_decode_op_2 : [
    0b00100000, 0b00100001, 0b00100010, 0b00100011, 0b00100100, 0b00100101, 0b00100110, 0b00100111, 0b00101000,
    0b00101001, 0b00101010, 0b00101011, 0b00101100, 0b00101101, 0b00101110, 0b00101111].map (fun w : Byte => decodeBytes w 0x34 0x12) = [
    .jr_NZ_e 0x34, .ld_HL_nn 0x1234, .ld_mHLi_A, .inc_HL, .inc_H, .dec_H, .ld_H_n 0x34, .daa, .jr_Z_e 0x34,
    .add_HL_HL, .ld_A_mHLi, .dec_HL, .inc_L, .dec_L, .ld_L_n 0x34, .cpl] := by decide

theorem test_decode_op_3 : [
    0b00110000, 0b00110001, 0b00110010, 0b00110011, 0b00110100, 0b00110101, 0b00110110, 0b00110111, 0b00111000,
    0b00111001, 0b00111010, 0b00111011, 0b00111100, 0b00111101, 0b00111110, 0b00111111].map (fun w : Byte => decodeBytes w 0x34 0x12) = [
    .jr_NC_e 0x34, .ld_SP_nn 0x1234, .ld_mHLd_A, .inc_SP, .inc_mHL, .dec_mHL, .ld_mHL_n 0x34, .scf, .jr_C_e 0x34,
    .add_HL_SP, .ld_A_mHLd, .dec_SP, .inc_A, .dec_A, .ld_A_n 0x34, .ccf] := by decide

theorem test_decode_op_4 : [
    0b01000000, 0b01000001, 0b01000010, 0b01000011, 0b01000100, 0b01000101, 0b01000110, 0b01000111, 0b01001000,
    0b01001001, 0b01001010, 0b01001011, 0b01001100, 0b01001101, 0b01001110, 0b01001111].map (fun w : Byte => decodeBytes w 0x34 0x12) = [
    .ld_B_B, .ld_B_C, .ld_B_D, .ld_B_E, .ld_B_H, .ld_B_L, .ld_B_mHL, .ld_B_A, .ld_C_B, .ld_C_C, .ld_C_D, .ld_C_E,
    .ld_C_H, .ld_C_L, .ld_C_mHL, .ld_C_A] := by decide

theorem test_decode_op_5 : [
    0b01010000, 0b01010001, 0b01010010, 0b01010011, 0b01010100, 0b01010101, 0b01010110, 0b01010111, 0b01011000,
    0b01011001, 0b01011010, 0b01011011, 0b01011100, 0b01011101, 0b01011110, 0b01011111].map (fun w : Byte => decodeBytes w 0x34 0x12) = [
    .ld_D_B, .ld_D_C, .ld_D_D, .ld_D_E, .ld_D_H, .ld_D_L, .ld_D_mHL, .ld_D_A, .ld_E_B, .ld_E_C, .ld_E_D, .ld_E_E,
    .ld_E_H, .ld_E_L, .ld_E_mHL, .ld_E_A] := by decide

theorem test_decode_op_6 : [
    0b01100000, 0b01100001, 0b01100010, 0b01100011, 0b01100100, 0b01100101, 0b01100110, 0b01100111, 0b01101000,
    0b01101001, 0b01101010, 0b01101011, 0b01101100, 0b01101101, 0b01101110, 0b01101111].map (fun w : Byte => decodeBytes w 0x34 0x12) = [
    .ld_H_B, .ld_H_C, .ld_H_D, .ld_H_E, .ld_H_H, .ld_H_L, .ld_H_mHL, .ld_H_A, .ld_L_B, .ld_L_C, .ld_L_D, .ld_L_E,
    .ld_L_H, .ld_L_L, .ld_L_mHL, .ld_L_A] := by decide

theorem test_decode_op_7 : [
    0b01110000, 0b01110001, 0b01110010, 0b01110011, 0b01110100, 0b01110101, 0b01110110, 0b01110111, 0b01111000,
    0b01111001, 0b01111010, 0b01111011, 0b01111100, 0b01111101, 0b01111110, 0b01111111].map (fun w : Byte => decodeBytes w 0x34 0x12) = [
    .ld_mHL_B, .ld_mHL_C, .ld_mHL_D, .ld_mHL_E, .ld_mHL_H, .ld_mHL_L, .halt, .ld_mHL_A, .ld_A_B, .ld_A_C, .ld_A_D,
    .ld_A_E, .ld_A_H, .ld_A_L, .ld_A_mHL, .ld_A_A] := by decide

theorem test_decode_op_8 : [
    0b10000000, 0b10000001, 0b10000010, 0b10000011, 0b10000100, 0b10000101, 0b10000110, 0b10000111, 0b10001000,
    0b10001001, 0b10001010, 0b10001011, 0b10001100, 0b10001101, 0b10001110, 0b10001111].map (fun w : Byte => decodeBytes w 0x34 0x12) = [
    .add_A_B, .add_A_C, .add_A_D, .add_A_E, .add_A_H, .add_A_L, .add_A_mHL, .add_A_A, .adc_A_B, .adc_A_C, .adc_A_D,
    .adc_A_E, .adc_A_H, .adc_A_L, .adc_A_mHL, .adc_A_A] := by decide

theorem test_decode_op_9 : [
    0b10010000, 0b10010001, 0b10010010, 0b10010011, 0b10010100, 0b10010101, 0b10010110, 0b10010111, 0b10011000,
    0b10011001, 0b10011010, 0b10011011, 0b10011100, 0b10011101, 0b10011110, 0b10011111].map (fun w : Byte => decodeBytes w 0x34 0x12) = [
    .sub_A_B, .sub_A_C, .sub_A_D, .sub_A_E, .sub_A_H, .sub_A_L, .sub_A_mHL, .sub_A_A, .sbc_A_B, .sbc_A_C, .sbc_A_D,
    .sbc_A_E, .sbc_A_H, .sbc_A_L, .sbc_A_mHL, .sbc_A_A] := by decide

theorem test_decode_op_A : [
    0b10100000, 0b10100001, 0b10100010, 0b10100011, 0b10100100, 0b10100101, 0b10100110, 0b10100111, 0b10101000,
    0b10101001, 0b10101010, 0b10101011, 0b10101100, 0b10101101, 0b10101110, 0b10101111].map (fun w : Byte => decodeBytes w 0x34 0x12) = [
    .and_A_B, .and_A_C, .and_A_D, .and_A_E, .and_A_H, .and_A_L, .and_A_mHL, .and_A_A, .xor_A_B, .xor_A_C, .xor_A_D,
    .xor_A_E, .xor_A_H, .xor_A_L, .xor_A_mHL, .xor_A_A] := by decide

theorem test_decode_op_B : [
    0b10110000, 0b10110001, 0b10110010, 0b10110011, 0b10110100, 0b10110101, 0b10110110, 0b10110111, 0b10111000,
    0b10111001, 0b10111010, 0b10111011, 0b10111100, 0b10111101, 0b10111110, 0b10111111].map (fun w : Byte => decodeBytes w 0x34 0x12) = [
    .or_A_B, .or_A_C, .or_A_D, .or_A_E, .or_A_H, .or_A_L, .or_A_mHL, .or_A_A, .cp_A_B, .cp_A_C, .cp_A_D, .cp_A_E,
    .cp_A_H, .cp_A_L, .cp_A_mHL, .cp_A_A] := by decide

theorem test_decode_op_C : [
    0b11000000, 0b11000001, 0b11000010, 0b11000011, 0b11000100, 0b11000101, 0b11000110, 0b11000111, 0b11001000,
    0b11001001, 0b11001010, 0b11001011, 0b11001100, 0b11001101, 0b11001110, 0b11001111].map (fun w : Byte => decodeBytes w 0x34 0x12) = [
    .ret_NZ, .pop_BC, .jp_NZ_nn 0x1234, .jp_nn 0x1234, .call_NZ_nn 0x1234, .push_BC, .add_A_n 0x34, .rst_00,
    .ret_Z, .ret, .jp_Z_nn 0x1234, .swap_H, .call_Z_nn 0x1234, .call_nn 0x1234, .adc_A_n 0x34, .rst_08] := by decide

theorem test_decode_op_D : [
    0b11010000, 0b11010001, 0b11010010, 0b11010011, 0b11010100, 0b11010101, 0b11010110, 0b11010111, 0b11011000,
    0b11011001, 0b11011010, 0b11011011, 0b11011100, 0b11011101, 0b11011110, 0b11011111].map (fun w : Byte => decodeBytes w 0x34 0x12) = [
    .ret_NC, .pop_DE, .jp_NC_nn 0x1234, .illegal_D3, .call_NC_nn 0x1234, .push_DE, .sub_A_n 0x34, .rst_10, .ret_C,
    .reti, .jp_C_nn 0x1234, .illegal_DB, .call_C_nn 0x1234, .illegal_DD, .sbc_A_n 0x34, .rst_18] := by decide

theorem test_decode_op_E : [
    0b11100000, 0b11100001, 0b11100010, 0b11100011, 0b11100100, 0b11100101, 0b11100110, 0b11100111, 0b11101000,
    0b11101001, 0b11101010, 0b11101011, 0b11101100, 0b11101101, 0b11101110, 0b11101111].map (fun w : Byte => decodeBytes w 0x34 0x12) = [
    .ldh_mn_A 0x34, .pop_HL, .ldh_mC_A, .illegal_E3, .illegal_E4, .push_HL, .and_A_n 0x34, .rst_20, .add_SP_e 0x34,
    .jp_HL, .ld_mnn_A 0x1234, .illegal_EB, .illegal_EC, .illegal_ED, .xor_A_n 0x34, .rst_28] := by decide

theorem test_decode_op_F : [
    0b11110000, 0b11110001, 0b11110010, 0b11110011, 0b11110100, 0b11110101, 0b11110110, 0b11110111, 0b11111000,
    0b11111001, 0b11111010, 0b11111011, 0b11111100, 0b11111101, 0b11111110, 0b11111111].map (fun w : Byte => decodeBytes w 0x34 0x12) = [
    .ldh_A_mn 0x34, .pop_AF, .ldh_A_mC, .di, .illegal_F4, .push_AF, .or_A_n 0x34, .rst_30, .ld_HL_SPe 0x34,
    .ld_SP_HL, .ld_A_mnn 0x1234, .ei, .illegal_FC, .illegal_FD, .cp_A_n 0x34, .rst_38] := by decide

/-! ## The second page (R115): the byte after 0xCB, bit by bit -/

theorem test_decode_cb_0 : [
    0b00000000, 0b00000001, 0b00000010, 0b00000011, 0b00000100, 0b00000101, 0b00000110, 0b00000111, 0b00001000,
    0b00001001, 0b00001010, 0b00001011, 0b00001100, 0b00001101, 0b00001110, 0b00001111].map (fun w : Byte => decodeBytes 0b11001011 w 0) = [
    .rlc_B, .rlc_C, .rlc_D, .rlc_E, .rlc_H, .rlc_L, .rlc_mHL, .rlc_A, .rrc_B, .rrc_C, .rrc_D, .rrc_E, .rrc_H,
    .rrc_L, .rrc_mHL, .rrc_A] := by decide

theorem test_decode_cb_1 : [
    0b00010000, 0b00010001, 0b00010010, 0b00010011, 0b00010100, 0b00010101, 0b00010110, 0b00010111, 0b00011000,
    0b00011001, 0b00011010, 0b00011011, 0b00011100, 0b00011101, 0b00011110, 0b00011111].map (fun w : Byte => decodeBytes 0b11001011 w 0) = [
    .rl_B, .rl_C, .rl_D, .rl_E, .rl_H, .rl_L, .rl_mHL, .rl_A, .rr_B, .rr_C, .rr_D, .rr_E, .rr_H, .rr_L, .rr_mHL,
    .rr_A] := by decide

theorem test_decode_cb_2 : [
    0b00100000, 0b00100001, 0b00100010, 0b00100011, 0b00100100, 0b00100101, 0b00100110, 0b00100111, 0b00101000,
    0b00101001, 0b00101010, 0b00101011, 0b00101100, 0b00101101, 0b00101110, 0b00101111].map (fun w : Byte => decodeBytes 0b11001011 w 0) = [
    .sla_B, .sla_C, .sla_D, .sla_E, .sla_H, .sla_L, .sla_mHL, .sla_A, .sra_B, .sra_C, .sra_D, .sra_E, .sra_H,
    .sra_L, .sra_mHL, .sra_A] := by decide

theorem test_decode_cb_3 : [
    0b00110000, 0b00110001, 0b00110010, 0b00110011, 0b00110100, 0b00110101, 0b00110110, 0b00110111, 0b00111000,
    0b00111001, 0b00111010, 0b00111011, 0b00111100, 0b00111101, 0b00111110, 0b00111111].map (fun w : Byte => decodeBytes 0b11001011 w 0) = [
    .swap_B, .swap_C, .swap_D, .swap_E, .swap_H, .swap_L, .swap_mHL, .swap_A, .srl_B, .srl_C, .srl_D, .srl_E,
    .srl_H, .srl_L, .srl_mHL, .srl_A] := by decide

theorem test_decode_cb_4 : [
    0b01000000, 0b01000001, 0b01000010, 0b01000011, 0b01000100, 0b01000101, 0b01000110, 0b01000111, 0b01001000,
    0b01001001, 0b01001010, 0b01001011, 0b01001100, 0b01001101, 0b01001110, 0b01001111].map (fun w : Byte => decodeBytes 0b11001011 w 0) = [
    .bit_0_B, .bit_0_C, .bit_0_D, .bit_0_E, .bit_0_H, .bit_0_L, .bit_0_mHL, .bit_0_A, .bit_1_B, .bit_1_C, .bit_1_D,
    .bit_1_E, .bit_1_H, .bit_1_L, .bit_1_mHL, .bit_1_A] := by decide

theorem test_decode_cb_5 : [
    0b01010000, 0b01010001, 0b01010010, 0b01010011, 0b01010100, 0b01010101, 0b01010110, 0b01010111, 0b01011000,
    0b01011001, 0b01011010, 0b01011011, 0b01011100, 0b01011101, 0b01011110, 0b01011111].map (fun w : Byte => decodeBytes 0b11001011 w 0) = [
    .bit_2_B, .bit_2_C, .bit_2_D, .bit_2_E, .bit_2_H, .bit_2_L, .bit_2_mHL, .bit_2_A, .bit_3_B, .bit_3_C, .bit_3_D,
    .bit_3_E, .bit_3_H, .bit_3_L, .bit_3_mHL, .bit_3_A] := by decide

theorem test_decode_cb_6 : [
    0b01100000, 0b01100001, 0b01100010, 0b01100011, 0b01100100, 0b01100101, 0b01100110, 0b01100111, 0b01101000,
    0b01101001, 0b01101010, 0b01101011, 0b01101100, 0b01101101, 0b01101110, 0b01101111].map (fun w : Byte => decodeBytes 0b11001011 w 0) = [
    .bit_4_B, .bit_4_C, .bit_4_D, .bit_4_E, .bit_4_H, .bit_4_L, .bit_4_mHL, .bit_4_A, .bit_5_B, .bit_5_C, .bit_5_D,
    .bit_5_E, .bit_5_H, .bit_5_L, .bit_5_mHL, .bit_5_A] := by decide

theorem test_decode_cb_7 : [
    0b01110000, 0b01110001, 0b01110010, 0b01110011, 0b01110100, 0b01110101, 0b01110110, 0b01110111, 0b01111000,
    0b01111001, 0b01111010, 0b01111011, 0b01111100, 0b01111101, 0b01111110, 0b01111111].map (fun w : Byte => decodeBytes 0b11001011 w 0) = [
    .bit_6_B, .bit_6_C, .bit_6_D, .bit_6_E, .bit_6_H, .bit_6_L, .bit_6_mHL, .bit_6_A, .bit_7_B, .bit_7_C, .bit_7_D,
    .bit_7_E, .bit_7_H, .bit_7_L, .bit_7_mHL, .bit_7_A] := by decide

theorem test_decode_cb_8 : [
    0b10000000, 0b10000001, 0b10000010, 0b10000011, 0b10000100, 0b10000101, 0b10000110, 0b10000111, 0b10001000,
    0b10001001, 0b10001010, 0b10001011, 0b10001100, 0b10001101, 0b10001110, 0b10001111].map (fun w : Byte => decodeBytes 0b11001011 w 0) = [
    .res_0_B, .res_0_C, .res_0_D, .res_0_E, .res_0_H, .res_0_L, .res_0_mHL, .res_0_A, .res_1_B, .res_1_C, .res_1_D,
    .res_1_E, .res_1_H, .res_1_L, .res_1_mHL, .res_1_A] := by decide

theorem test_decode_cb_9 : [
    0b10010000, 0b10010001, 0b10010010, 0b10010011, 0b10010100, 0b10010101, 0b10010110, 0b10010111, 0b10011000,
    0b10011001, 0b10011010, 0b10011011, 0b10011100, 0b10011101, 0b10011110, 0b10011111].map (fun w : Byte => decodeBytes 0b11001011 w 0) = [
    .res_2_B, .res_2_C, .res_2_D, .res_2_E, .res_2_H, .res_2_L, .res_2_mHL, .res_2_A, .res_3_B, .res_3_C, .res_3_D,
    .res_3_E, .res_3_H, .res_3_L, .res_3_mHL, .res_3_A] := by decide

theorem test_decode_cb_A : [
    0b10100000, 0b10100001, 0b10100010, 0b10100011, 0b10100100, 0b10100101, 0b10100110, 0b10100111, 0b10101000,
    0b10101001, 0b10101010, 0b10101011, 0b10101100, 0b10101101, 0b10101110, 0b10101111].map (fun w : Byte => decodeBytes 0b11001011 w 0) = [
    .res_4_B, .res_4_C, .res_4_D, .res_4_E, .res_4_H, .res_4_L, .res_4_mHL, .res_4_A, .res_5_B, .res_5_C, .res_5_D,
    .res_5_E, .res_5_H, .res_5_L, .res_5_mHL, .res_5_A] := by decide

theorem test_decode_cb_B : [
    0b10110000, 0b10110001, 0b10110010, 0b10110011, 0b10110100, 0b10110101, 0b10110110, 0b10110111, 0b10111000,
    0b10111001, 0b10111010, 0b10111011, 0b10111100, 0b10111101, 0b10111110, 0b10111111].map (fun w : Byte => decodeBytes 0b11001011 w 0) = [
    .res_6_B, .res_6_C, .res_6_D, .res_6_E, .res_6_H, .res_6_L, .res_6_mHL, .res_6_A, .res_7_B, .res_7_C, .res_7_D,
    .res_7_E, .res_7_H, .res_7_L, .res_7_mHL, .res_7_A] := by decide

theorem test_decode_cb_C : [
    0b11000000, 0b11000001, 0b11000010, 0b11000011, 0b11000100, 0b11000101, 0b11000110, 0b11000111, 0b11001000,
    0b11001001, 0b11001010, 0b11001011, 0b11001100, 0b11001101, 0b11001110, 0b11001111].map (fun w : Byte => decodeBytes 0b11001011 w 0) = [
    .set_0_B, .set_0_C, .set_0_D, .set_0_E, .set_0_H, .set_0_L, .set_0_mHL, .set_0_A, .set_1_B, .set_1_C, .set_1_D,
    .set_1_E, .set_1_H, .set_1_L, .set_1_mHL, .set_1_A] := by decide

theorem test_decode_cb_D : [
    0b11010000, 0b11010001, 0b11010010, 0b11010011, 0b11010100, 0b11010101, 0b11010110, 0b11010111, 0b11011000,
    0b11011001, 0b11011010, 0b11011011, 0b11011100, 0b11011101, 0b11011110, 0b11011111].map (fun w : Byte => decodeBytes 0b11001011 w 0) = [
    .set_2_B, .set_2_C, .set_2_D, .set_2_E, .set_2_H, .set_2_L, .set_2_mHL, .set_2_A, .set_3_B, .set_3_C, .set_3_D,
    .set_3_E, .set_3_H, .set_3_L, .set_3_mHL, .set_3_A] := by decide

theorem test_decode_cb_E : [
    0b11100000, 0b11100001, 0b11100010, 0b11100011, 0b11100100, 0b11100101, 0b11100110, 0b11100111, 0b11101000,
    0b11101001, 0b11101010, 0b11101011, 0b11101100, 0b11101101, 0b11101110, 0b11101111].map (fun w : Byte => decodeBytes 0b11001011 w 0) = [
    .set_4_B, .set_4_C, .set_4_D, .set_4_E, .set_4_H, .set_4_L, .set_4_mHL, .set_4_A, .set_5_B, .set_5_C, .set_5_D,
    .set_5_E, .set_5_H, .set_5_L, .set_5_mHL, .set_5_A] := by decide

theorem test_decode_cb_F : [
    0b11110000, 0b11110001, 0b11110010, 0b11110011, 0b11110100, 0b11110101, 0b11110110, 0b11110111, 0b11111000,
    0b11111001, 0b11111010, 0b11111011, 0b11111100, 0b11111101, 0b11111110, 0b11111111].map (fun w : Byte => decodeBytes 0b11001011 w 0) = [
    .set_6_B, .set_6_C, .set_6_D, .set_6_E, .set_6_H, .set_6_L, .set_6_mHL, .set_6_A, .set_7_B, .set_7_C, .set_7_D,
    .set_7_E, .set_7_H, .set_7_L, .set_7_mHL, .set_7_A] := by decide

/-! ## Bytes, words and lengths (R101, R103, R119) -/

/-- The low byte of an immediate word comes first. -/
theorem test_decode_keeps_the_rest : decode [0xC3, 0x50, 0x01, 0x76] = .ok (.jp_nn 0x0150, [0x76]) := rfl

theorem test_decode_refuses_no_bytes : decode [] = .error .noBytes := rfl

theorem test_decode_refuses_a_short_word : decode [0xCD, 0x50] = .error (.truncated 0xCD) := rfl

/-- A table word: the second byte is bits 15 to 8; operand bits above `nbits` are 0. -/
theorem test_table_words : decodeTableWord 16 0x343E = some (.ld_A_n 0x34) ∧ decodeTableWord 8 0x3E = some (.ld_A_n 0x00) ∧
    decodeTableWord 16 0x7CCB = some .bit_7_H ∧ decodeTableWord 24 0x1234C3 = some (.jp_nn 0x1234) ∧
    decodeTableWord 8 0xD3 = some .illegal_D3 := by decide


/-! ## Single steps. The expected values are those of the vectors of spec/95_test_vectors.md that the comments name -/

/-- The base state V0 of the vectors, but that ROM reads 0xFF, and 0x00 (`NOP`) at the first interrupt vector. -/
def base : State := { State.reset with
  a := 0, f := 0, c := 0, e := 0, h := 0, l := 0, sp := 0xDFF0, pc := 0xC000, mem := { State.reset.mem with rom := [(0x40, 0x00)] } }

/-- The bytes of a program placed from an address on. -/
def put (bs : List Byte) (addr : Word) (s : State) : State :=
  match bs with
  | [] => s
  | b :: rest => put rest (addr + 1) (s.place addr b)

/-- One step over code bytes placed at `PC`: what `view` shows of the next state. -/
def after {α : Type} (code : List Byte) (s : State) (view : State → α) : Option α :=
  match step (put code s.pc s) with
  | .next t => some (view t)
  | .fault _ => none
  | .refused _ => none

/-- Executing the instruction answers a next state. -/
def answers (s : State) (i : Instr) : Bool :=
  match exec i s with
  | .next _ => true
  | .fault _ => false
  | .refused _ => false

theorem test_answers_all {s : State} {is : List Instr} (h : is.all (answers s) = true) : ∀ i ∈ is, ∃ t, exec i s = .next t := by
  intro i hi
  have ha := List.all_eq_true.1 h i hi
  unfold answers at ha
  split at ha
  · exact ⟨_, ‹_›⟩
  · cases ha
  · cases ha

/-- LD3. -/
theorem test_ld_H_mHL : after [0x66] (put [0x12] 0xC100 { base with h := 0xC1 }) (fun t => (t.h, t.l, t.pc)) = some (0x12, 0x00, 0xC001) := by
  decide
/-- LD7: a store to ROM is discarded. -/
theorem test_ld_mHL_n_rom : after [0x36, 0x99] { base with h := 0x40 } (fun t => (t.mem.rom, t.pc)) = some ([(0x40, 0x00)], 0xC002) := by
  decide
/-- LD10: the echo lands in work RAM. -/
theorem test_ld_mBC_A_echo : after [0x02] { base with a := 0x11, b := 0xFD, c := 0xFF } (fun t => (t.read 0xDDFF, t.a)) = some (0x11, 0x11) := by
  decide
/-- LD12: `HL` wraps and the byte lands in `IE`. -/
theorem test_ld_mHLi_A_wraps : after [0x22] { base with a := 0x04, h := 0xFF, l := 0xFF } (fun t => (t.ie, t.h, t.l)) = some (0x04, 0x00, 0x00) := by
  decide
/-- LD15. -/
theorem test_ld_A_mHLd : after [0x3A] { base with h := 0xC0 } (fun t => (t.a, t.h, t.l)) = some (0x3A, 0xBF, 0xFF) := by decide
/-- LD16: `IF` stores five bits. -/
theorem test_ldh_mn_A_if : after [0xE0, 0x0F] { base with a := 0xFF } (fun t => (t.iflag, t.read 0xFF0F)) = some (0x1F, 0xFF) := by decide
/-- LD17: the boot ROM is unmapped. -/
theorem test_ldh_mn_A_boot_off : after [0xE0, 0x50] { base with a := 0x01, bootMapped := true } (fun t => (t.bootMapped, t.read 0xFF50)) =
    some (false, 0x01) := by decide
/-- LD18: bit 0 clear leaves it mapped. -/
theorem test_ldh_mn_A_boot_stays : after [0xE0, 0x50] { base with a := 0xFE, bootMapped := true } (fun t => (t.bootMapped, t.read 0xFF50)) =
    some (true, 0xFE) := by decide
/-- LS3: low byte first. -/
theorem test_ld_mnn_SP : after [0x08, 0x00, 0xC1] { base with sp := 0xABCD } (fun t => (t.read 0xC100, t.read 0xC101)) = some (0xCD, 0xAB) := by
  decide
/-- LS6. -/
theorem test_push_BC : after [0xC5] { base with b := 0x12, c := 0x34 } (fun t => (t.sp, t.read 0xDFEF, t.read 0xDFEE)) =
    some (0xDFEE, 0x12, 0x34) := by decide
/-- LS9: the low nibble of `F` is dropped. -/
theorem test_pop_AF : after [0xF1] (put [0xFF, 0x12] 0xDFF0 base) (fun t => (t.a, t.f, t.sp)) = some (0x12, 0xF0, 0xDFF2) := by decide
/-- AL1. -/
theorem test_add_carries : after [0x80] { base with a := 0x3A, b := 0xC6 } (fun t => (t.a, t.f)) = some (0x00, 0xB0) := by decide
/-- AL6. -/
theorem test_adc_full : after [0xCE, 0xFF] { base with f := 0x10 } (fun t => (t.a, t.f)) = some (0x00, 0xB0) := by decide
/-- AL9. -/
theorem test_sub_borrows : after [0xD6, 0x01] base (fun t => (t.a, t.f)) = some (0xFF, 0x70) := by decide
/-- AL13. -/
theorem test_sbc_full : after [0xDE, 0xFF] { base with f := 0x10 } (fun t => (t.a, t.f)) = some (0x00, 0xF0) := by decide
/-- AL17. -/
theorem test_and : after [0xE6, 0x0F] { base with a := 0xF0, f := 0x50 } (fun t => (t.a, t.f)) = some (0x00, 0xA0) := by decide
/-- AL20. -/
theorem test_xor : after [0xEE, 0xFF] { base with a := 0x0F, f := 0xF0 } (fun t => (t.a, t.f)) = some (0xF0, 0x00) := by decide
/-- AL21. -/
theorem test_or_open_bus : after [0xB6] { base with f := 0xF0, h := 0xA0 } (fun t => (t.a, t.f)) = some (0xFF, 0x00) := by decide
/-- AL24. -/
theorem test_cp : after [0xFE, 0x43] { base with a := 0x42 } (fun t => (t.a, t.f)) = some (0x42, 0x70) := by decide
/-- AL27: `C` kept. -/
theorem test_inc_B : after [0x04] { base with b := 0xFF, f := 0x10 } (fun t => (t.b, t.f)) = some (0x00, 0xB0) := by decide
/-- AL34: read, change and write back `IE`. -/
theorem test_dec_mHL_ie : after [0x35] { base with h := 0xFF, l := 0xFF, ie := 0x01 } (fun t => (t.ie, t.f)) = some (0x00, 0xC0) := by decide
/-- AL36, AL45. -/
theorem test_daa_after_add : after [0x27] { base with a := 0x9A } (fun t => (t.a, t.f)) = some (0x00, 0x90) := by decide
theorem test_daa_after_sub : after [0x27] { base with f := 0x70 } (fun t => (t.a, t.f)) = some (0x9A, 0x50) := by decide
/-- AL50 to AL53. -/
theorem test_cpl : after [0x2F] { base with a := 0x35, f := 0x90 } (fun t => (t.a, t.f)) = some (0xCA, 0xF0) := by decide
theorem test_scf : after [0x37] { base with f := 0xE0 } (fun t => t.f) = some 0x90 := by decide
theorem test_ccf : after [0x3F] { base with f := 0xF0 } (fun t => t.f) = some 0x80 := by decide
/-- AW2: `Z` kept, half carry from bit 11. -/
theorem test_add_HL_BC : after [0x09] { base with h := 0x0F, l := 0xFF, c := 0x01, f := 0xC0 } (fun t => (t.hl, t.f)) =
    some (0x1000, 0xA0) := by decide
/-- AW7, AW8: no flags. -/
theorem test_inc_BC : after [0x03] { base with b := 0xFF, c := 0xFF, f := 0xF0 } (fun t => (t.bc, t.f)) = some (0x0000, 0xF0) := by decide
theorem test_dec_SP : after [0x3B] { base with sp := 0x0000 } (fun t => (t.sp, t.f)) = some (0xFFFF, 0x00) := by decide
/-- AW16. -/
theorem test_add_SP_e : after [0xE8, 0xF0] { base with f := 0xC0 } (fun t => (t.sp, t.f)) = some (0xDFE0, 0x10) := by decide
/-- AW23. -/
theorem test_ld_HL_SPe : after [0xF8, 0xFF] { base with sp := 0x00FF, f := 0xC0 } (fun t => (t.hl, t.f, t.sp)) = some (0x00FE, 0x30, 0x00FF) := by
  decide
/-- RS2: `Z` cleared. RS7. -/
theorem test_rlca_zero : after [0x07] { base with f := 0xF0 } (fun t => (t.a, t.f)) = some (0x00, 0x00) := by decide
theorem test_rra : after [0x1F] { base with f := 0x90 } (fun t => (t.a, t.f)) = some (0x80, 0x00) := by decide
/-- RS12, RS14, RS16, RS21. -/
theorem test_rr_E : after [0xCB, 0x1B] { base with e := 0x01, f := 0x10 } (fun t => (t.e, t.f)) = some (0x80, 0x10) := by decide
theorem test_sra_L : after [0xCB, 0x2D] { base with l := 0x81 } (fun t => (t.l, t.f)) = some (0xC0, 0x10) := by decide
theorem test_swap_A : after [0xCB, 0x37] { base with a := 0xF1, f := 0xF0 } (fun t => (t.a, t.f)) = some (0x1F, 0x00) := by decide
theorem test_rr_mHL : after [0xCB, 0x1E] (put [0x01] 0xC100 { base with h := 0xC1 }) (fun t => (t.read 0xC100, t.f)) = some (0x00, 0x90) := by
  decide
/-- RS24, RS27, RS28. -/
theorem test_bit_7_H : after [0xCB, 0x7C] { base with f := 0x40 } (fun t => t.f) = some 0xA0 := by decide
theorem test_res_0_mHL : after [0xCB, 0x86] { base with h := 0xFF, l := 0xFF, ie := 0xFF } (fun t => (t.ie, t.f)) = some (0xFE, 0x00) := by decide
theorem test_set_0_mHL_boot : after [0xCB, 0xC6] { base with h := 0xFF, l := 0x50, bootMapped := true } (fun t => (t.bootMapped, t.read 0xFF50)) =
    some (false, 0x01) := by decide
/-- CF3, CF4, CF10, CF13. -/
theorem test_jp_NZ_not_taken : after [0xC2, 0x34, 0x12] { base with f := 0x80 } (fun t => t.pc) = some 0xC003 := by decide
theorem test_jp_Z_taken : after [0xCA, 0x34, 0x12] { base with f := 0x80 } (fun t => t.pc) = some 0x1234 := by decide
theorem test_jr_back : after [0x18, 0x80] base (fun t => t.pc) = some 0xBF82 := by decide
theorem test_jr_NZ_not_taken : after [0x20, 0xFB] { base with f := 0x80 } (fun t => t.pc) = some 0xC002 := by decide
/-- CF19, CF26, CF32, CF34. -/
theorem test_call : after [0xCD, 0x50, 0x01] base (fun t => (t.pc, t.sp, t.read 0xDFEE, t.read 0xDFEF)) =
    some (0x0150, 0xDFEE, 0x03, 0xC0) := by decide
theorem test_ret : after [0xC9] (put [0x34, 0x12] 0xDFEE { base with sp := 0xDFEE }) (fun t => (t.pc, t.sp)) = some (0x1234, 0xDFF0) := by decide
theorem test_reti : after [0xD9] (put [0x34, 0x12] 0xDFEE { base with sp := 0xDFEE }) (fun t => (t.pc, t.ime)) = some (0x1234, true) := by decide
theorem test_rst_28 : after [0xEF] base (fun t => (t.pc, t.read 0xDFEE)) = some (0x0028, 0x01) := by decide
/-- SY2, SY4 (first step), SY5 (second step), SY10, SY13, SY14, SY15 (second step). -/
theorem test_halt_with_nothing_pending : after [0x76] base (fun t => (t.mode, t.haltBug, t.pc)) = some (.halted, false, 0xC001) := by decide
theorem test_halt_arms_the_bug : after [0x76] { base with ie := 0x01, iflag := 0x01 } (fun t => (t.mode, t.haltBug)) = some (.running, true) := by decide
theorem test_halt_bug_doubles_a_byte : after [0x06, 0x04] { base with ie := 0x01, iflag := 0x01, haltBug := true }
    (fun t => (t.b, t.pc, t.haltBug)) = some (0x06, 0xC001, false) := by decide
theorem test_stop : after [0x10, 0x00] base (fun t => (t.mode, t.pc)) = some (.stopped, 0xC002) := by decide
theorem test_di : after [0xF3] { base with ime := true } (fun t => (t.ime, t.imePending)) = some (false, false) := by decide
theorem test_ei : after [0xFB] base (fun t => (t.ime, t.imePending)) = some (false, true) := by decide
theorem test_delayed_enable : after [0x00] { base with imePending := true } (fun t => (t.ime, t.imePending)) = some (true, false) := by decide
/-- SY19: the fault carries the byte and its address, and no state. -/
theorem test_illegal_D3 : step (put [0xD3] 0xC000 base) = .fault (.illegalOpcode 0xD3 0xC000) := by rfl
/-- IN6: the lowest request first; IN12: a halted core wakes and dispatches in one step; IN16. -/
theorem test_dispatch : after [0x3C] { base with ime := true, ie := 0x1F, iflag := 0x1F }
    (fun t => (t.pc, t.sp, t.ime, t.iflag, t.read 0xDFEF, t.a)) = some (0x0041, 0xDFEE, false, 0x1E, 0xC0, 0x00) := by decide
theorem test_halted_core_wakes : after [0x3C] { base with ie := 0x02, mode := .halted, inputs := [⟨0x02, false⟩] }
    (fun t => (t.mode, t.a, t.iflag, t.inputs)) = some (.running, 0x01, 0x02, []) := by decide
theorem test_stopped_core_latches : after [0x3C] { base with ime := true, ie := 0x1F, mode := .stopped, inputs := [⟨0x1F, false⟩] }
    (fun t => (t.mode, t.pc, t.iflag)) = some (.stopped, 0xC000, 0x1F) := by decide
theorem test_stopped_core_wakes : after [0x3C] { base with mode := .stopped, inputs := [⟨0, true⟩] } (fun t => (t.mode, t.a)) =
    some (.running, 0x01) := by decide
/-- The cycles of CF20 and CF21 (not taken, taken), and of IN1 (5 for the dispatch, 1 for the instruction). -/
theorem test_cycles : cycles (.call_NZ_nn 0x0150) { base with f := 0x80 } = 3 ∧ cycles (.call_NZ_nn 0x0150) base = 6 := by decide
theorem test_dispatch_cycles : ∃ t, stepTimed (put [0x3C] 0xC000 { base with ime := true, ie := 0x1F, iflag := 0x01 }) = .next (t, 6) :=
  ⟨_, rfl⟩
/-- A word placed at reset is what the first step runs (spec/95_test_vectors.md S1: `LD A,0x42` at 0x0100). -/
theorem test_first_step_after_reset : after [] (State.reset.withFetchWord 16 0x423E) (fun t => (t.a, t.pc, t.b, t.f)) =
    some (0x42, 0x0102, 0x00, 0xB0) := by decide
/-- CN1 and CN2 of spec/95_test_vectors.md: an image shorter than a header is refused. -/
theorem test_empty_image : construct {} [] none true true = .error .invalidRomFormat := rfl
theorem test_short_image : construct {} (List.replicate 0x14F 0) none true true = .error .invalidRomFormat := by
  simp only [construct, romAccepted, Config.minRomLen, List.length_replicate]
  rfl

/-! ## Witnesses: for every obligation with hypotheses, states and operands that meet them, clause by clause -/

/-- A state with a boot ROM mapped over a ROM image. -/
def booting : State := { stateWithBoot { base.mem with boot := [(0x00, 0x31)] } with sp := 0xDFF0 }

theorem test_witness_DecodeOfEncodeIsIdentity :
    Instr.halt.WellFormed ∧ (Instr.ld_SP_nn 0xFFFF).WellFormed ∧ Instr.bit_0_mHL.WellFormed := by decide

theorem test_witness_EncodeOfDecodeIsIdentity : decode [0xCB, 0xFF, 0x00] = .ok (.set_7_A, [0x00]) := rfl

theorem test_witness_ElevenBytesAreIllegalAndFault :
    (0xFD : Byte) ∈ ([0xD3, 0xDB, 0xDD, 0xE3, 0xE4, 0xEB, 0xEC, 0xED, 0xF4, 0xFC, 0xFD] : List Byte) ∧
    exec (decodeBytes 0xFD 0 0) base = .fault (.illegalOpcode 0xFD 0xC000) := ⟨by decide, rfl⟩

/-- Each row at its two ends. -/
theorem test_witness_AddressMapOfTheBus :
    (booting.owner 0x0000 = .cell .boot 0 ∧ booting.owner 0x00FF = .cell .boot 0xFF ∧ booting.owner 0x0100 = .cell .rom 0x100) ∧
    (base.owner 0x0000 = .cell .rom 0 ∧ base.owner 0x00FF = .cell .rom 0xFF ∧ base.owner 0x7FFF = .cell .rom 0x7FFF) ∧
    (base.owner 0x8000 = .cell .vram 0 ∧ base.owner 0x9FFF = .cell .vram 0x1FFF) ∧
    (base.owner 0xA000 = .unmapped ∧ base.owner 0xBFFF = .unmapped) ∧
    (base.owner 0xC000 = .cell .wram 0 ∧ base.owner 0xDFFF = .cell .wram 0x1FFF) ∧
    (base.owner 0xE000 = .cell .wram 0 ∧ base.owner 0xFDFF = .cell .wram 0x1DFF) ∧
    (base.owner 0xFE00 = .cell .oam 0 ∧ base.owner 0xFE9F = .cell .oam 0x9F) ∧
    (base.owner 0xFEA0 = .unmapped ∧ base.owner 0xFEFF = .unmapped) ∧
    (base.owner 0xFF00 = .cell .io 0 ∧ base.owner 0xFF7F = .cell .io 0x7F) ∧
    (base.owner 0xFF0F = .ifReg ∧ base.owner 0xFF50 = .bootReg) ∧
    (base.owner 0xFF80 = .cell .hram 0 ∧ base.owner 0xFFFE = .cell .hram 0x7E ∧ base.owner 0xFFFF = .ieReg) := by decide

/-- Both clauses, and the echo's first and last address. -/
theorem test_witness_StoredByteReadsBack :
    base.memWf ∧ homeAddr 0xE000 = homeAddr 0xC000 ∧ homeAddr 0xFDFF = homeAddr 0xDDFF ∧ homeAddr 0xFF0F = homeAddr 0xFF0F ∧
    homeAddr 0x8000 = homeAddr 0x8000 ∧ homeAddr 0xFFFF = homeAddr 0xFFFF := by decide

theorem test_witness_StoreLeavesOtherBytesAlone :
    booting.memWf ∧ ¬ StoreReaches booting 0xFF50 0x01 0x0100 ∧ StoreReaches booting 0xFF50 0x01 0x00FF ∧
    ¬ StoreReaches base 0xDDFF 0x12 0xDDFE ∧ StoreReaches base 0xDDFF 0x12 0xFDFF := by
  unfold StoreReaches; decide

theorem test_witness_OpenBusReadsTheSentinel : base.owner 0xA000 = .unmapped ∧ base.owner 0xBFFF = .unmapped ∧
    base.owner 0xFEA0 = .unmapped ∧ base.owner 0xFEFF = .unmapped := by decide

theorem test_witness_BootOverlayAndItsDisableRegister :
    booting.memWf ∧ (0x01 : Byte).getLsbD 0 = true ∧ (0xFE : Byte).getLsbD 0 = false ∧
    (booting.write 0xFF50 0xFE).bootMapped = true := by decide

/-- A refused and an accepted image, without and with a boot ROM. -/
theorem test_witness_ConstructionGivesTheResetTable :
    romAccepted {} [] = false ∧ romAccepted {} (List.replicate 0x150 0) = true ∧ (some [0x31] : Option (List Byte)) = some [0x31] := by
  simp only [romAccepted, Config.minRomLen, List.length_replicate]
  decide

/-- A running core without and with an armed halt bug, over the bytes of `LD B,0x04`. -/
def plain : State := put [0x06, 0x04, 0x00] 0xC000 base
def bugged : State := { plain with haltBug := true }

theorem test_witness_StepRunsTheDecodedInstruction :
    plain.wakeUp false = some plain ∧ plain.ready.haltBug = false ∧
    (plain.ready.pc, plain.ready.read 0xC000, plain.ready.read 0xC001, plain.ready.read 0xC002) = (0xC000, 0x06, 0x04, 0x00) ∧
    (∃ t, exec (.ld_B_n 0x04) plain.ready = .next t) := ⟨by decide, by decide, by decide, _, rfl⟩

theorem test_witness_StepRunsTheDecodedInstruction_bug :
    bugged.wakeUp false = some bugged ∧ bugged.ready.haltBug = true ∧
    (bugged.ready.pc, bugged.ready.read 0xC000, bugged.ready.read 0xC001) = (0xC000, 0x06, 0x04) ∧
    (∃ t, exec (.ld_B_n 0x06) bugged.ready = .next t) := ⟨by decide, by decide, by decide, _, rfl⟩

/-- The bytes read above, decoded. -/
theorem test_witness_StepRunsTheDecodedInstruction_bytes :
    decode [0x06, 0x04, 0x00] = .ok (.ld_B_n 0x04, [0x00]) ∧ decode [0x06, 0x06, 0x04] = .ok (.ld_B_n 0x06, [0x04]) := ⟨rfl, rfl⟩

theorem test_witness_StoppedAndHaltedSteps :
    { base with mode := .stopped }.mode = .stopped ∧
    (let s := { base with mode := .halted, ie := 0xE1 };
      s.mode = .halted ∧ s.ie.setWidth 5 &&& (s.iflag ||| 0x1E) = 0 ∧ s.ie.setWidth 5 &&& (s.iflag ||| 0x01) ≠ 0) := by decide

/-- The lowest and the highest source. -/
theorem test_witness_InterruptDispatchEntry :
    let s := { base with ime := true, ie := 0x1F, iflag := 0x10 }
    s.mode = .running ∧ s.ime = true ∧ (s.ie.setWidth 5 &&& (s.iflag ||| 0)).getLsbD 4 = true ∧
    (∀ j, j < 4 → (s.ie.setWidth 5 &&& (s.iflag ||| 0)).getLsbD j = false) ∧
    (s.ie.setWidth 5 &&& (s.iflag ||| 0x01)).getLsbD 0 = true := by decide

/-- `NOP` and `DI` after `EI`. -/
theorem test_witness_DelayedEnableOfEI :
    let s := { base with imePending := true }
    (s.mode = .running ∧ s.ime = false ∧ s.imePending = true) ∧
    (put [0x00] 0xC000 s).nextInstr ≠ .di ∧ (∃ t, stepWith ⟨0x01, false⟩ (put [0x00] 0xC000 s) = .next (t, 1)) ∧
    (put [0xF3] 0xC000 s).nextInstr = .di ∧ (∃ t, stepWith ⟨0x01, false⟩ (put [0xF3] 0xC000 s) = .next (t, 1)) :=
  ⟨by decide, by decide, ⟨_, rfl⟩, by decide, ⟨_, rfl⟩⟩

theorem test_witness_FetchAndTheHaltBug :
    base.haltBug = false ∧ { put [0xCB] 0xC000 base with haltBug := true }.haltBug = true ∧
    { put [0xCB] 0xC000 base with haltBug := true }.read 0xC000 = 0xCB := by decide

theorem test_witness_StepFaultsOnlyOnAnIllegalByte : ∃ x, step (put [0xFD] 0xC000 base) = .fault x := ⟨_, rfl⟩

/-- The first and the last operand indexes; (6, 6) is the slot of `HALT`. -/
theorem test_witness_EightBitLoadsBetweenOperands :
    (0 < 8 ∧ 7 < 8 ∧ ¬ (6 = 6 ∧ 7 = 6)) ∧ R8.ofIndex 0 = .B ∧ R8.ofIndex 6 = .mHL ∧ R8.ofIndex 7 = .A := by decide

theorem test_witness_PopAfterPushRestoresThePair :
    base.memWf ∧ 0xC002 ≤ ({ base with sp := 0xC002 } : State).sp.toNat ∧ ({ base with sp := 0xE000 } : State).sp.toNat ≤ 0xE000 := by decide

theorem test_witness_EightBitAluOperandForms : (0 < 8 ∧ 7 < 8) ∧ AluOp.ofIndex 0 = .add ∧ AluOp.ofIndex 7 = .cp := by decide

theorem test_witness_IncrementDecrementAndTheirFlags : 7 < 8 ∧ R8.ofIndex 5 = .L := by decide

theorem test_witness_DecimalAdditionAndSubtraction :
    ({ base with a := 0x99 } : State).a.toNat / 16 ≤ 9 ∧ ({ base with a := 0x99 } : State).a.toNat % 16 ≤ 9 ∧
    (0x90 : Byte).toNat / 16 ≤ 9 ∧ (0x09 : Byte).toNat % 16 ≤ 9 := by decide

theorem test_witness_SixteenBitAdditionIncrementDecrement : 3 < 4 ∧ R16.ofIndex 3 = .SP := by decide

theorem test_witness_PrefixedRotatesAndShifts : 7 < 8 ∧ RotOp.ofIndex 7 = .srl ∧ RotOp.ofIndex 0 = .rlc := by decide

theorem test_witness_BitTestResetAndSet : (0 < 8 ∧ 7 < 8) ∧ bitR8 7 .A = .bit_7_A ∧ setR8 0 .mHL = .set_0_mHL := by decide

theorem test_witness_ConditionsReadTheFlags : base.cond .Z = false ∧ ({ base with f := 0x90 } : State).cond .NC = false := by decide

theorem test_witness_JumpsAbsoluteAndRelative : base.haltBug = false ∧ base.cond .NZ = true ∧ base.cond .C = false := by decide

theorem test_witness_CallsAndRestarts : (0 < 8 ∧ 7 < 8) ∧ rstTo 7 = .rst_38 ∧ base.cond .NC = true := by decide

/-- The three cases of `HALT`; the bits of `IE` above 4 enable nothing. -/
theorem test_witness_HaltInItsThreeCases :
    (let s := { base with ie := 0xE0, iflag := 0x1F }; s.ie.setWidth 5 &&& s.iflag = 0) ∧
    (let s := { base with ie := 0x10, iflag := 0x10 }; s.ie.setWidth 5 &&& s.iflag ≠ 0 ∧ s.ime = false) ∧
    (let s := { base with ie := 0x10, iflag := 0x10, ime := true }; s.ie.setWidth 5 &&& s.iflag ≠ 0 ∧ s.ime = true) := by decide

/-- Every group of forms answers a next state. -/
theorem test_witness_RegisterFormsChangeOnlyTheirDestination :
    ∀ i ∈ [ldR8R8 .B .mHL, ldR8Imm .A 0, loadAMem .BC, loadAMem .HLd, .ld_A_mnn 0xFFFF, .ldh_A_mC, .ldh_A_mn 0, ldR16Imm .SP 0, incR16 .BC,
      decR16 .HL, .ld_SP_HL, aluR8 .cp .mHL, aluImm .add 0, incR8 .B, decR8 .A, .daa, .cpl, .scf, .ccf, .rlca, .rrca, .rla, .rra,
      addHlR16 .SP, .add_SP_e 0x80, .ld_HL_SPe 0x7F, rotR8 .srl .A, bitR8 7 .mHL, resR8 0 .B, setR8 7 .A],
    ∃ t, exec i base = .next t := test_answers_all (by decide)

theorem test_witness_StoringFormsChangeOnlyTheStoredByte :
    base.memWf ∧ ∀ i ∈ [ldR8R8 .mHL .H, .ld_mHL_n 1, storeAMem .HLi, storeAMem .DE, .ld_mnn_A 0xFF50, .ldh_mC_A, .ldh_mn_A 0xFF,
      .inc_mHL, .dec_mHL, rotR8 .swap .mHL, resR8 7 .mHL, setR8 0 .mHL],
    ∃ t, exec i base = .next t := ⟨by decide, test_answers_all (by decide)⟩

theorem test_witness_StackAndTransferFormsFrame :
    base.memWf ∧ ∀ i ∈ [pushR16 .AF, .call_nn 0, callCond .NZ 0, callCond .Z 0, rstTo 7, .ld_mnn_SP 0xFFFF, popR16 .AF, .ret, retCond .NC,
      .reti, .jp_nn 0, .jp_HL, .jr_e 0x80, jpCond .C 0, jrCond .NZ 0, .nop, .halt, .stop 0, .di, .ei],
    ∃ t, exec i base = .next t := ⟨by decide, test_answers_all (by decide)⟩

theorem test_witness_EveryInstructionCompletesInEveryState : (Instr.stop 0xD3).WellFormed ∧ Instr.set_7_mHL.WellFormed := by decide

/-- A running state, and one with an armed halt bug. -/
theorem test_witness_StepKeepsTheInvariant :
    base.Inv ∧ (∃ t, step (put [0x76] 0xC000 base) = .next t) ∧ ({ base with haltBug := true } : State).Inv ∧
    (∃ t, step { base with haltBug := true } = .next t) := by
  refine ⟨by decide, ⟨_, rfl⟩, by decide, ⟨_, rfl⟩⟩

theorem test_witness_ReachableStatesKeepTheReadOnlyArrays :
    base.Inv ∧ base.bootMapped = false ∧ ∃ t, StepsTo base t ∧ Reaches base t :=
  ⟨by decide, rfl, _, rfl, .tail .refl rfl⟩

theorem test_witness_ModeStateMachine :
    base.mode = .running ∧ base.pending = 0 ∧ (∃ t, exec .halt base = .next t) ∧
    ({ base with ie := 0x01, iflag := 0x01 } : State).pending ≠ 0 ∧ (∃ t, exec .halt { base with ie := 0x01, iflag := 0x01 } = .next t) ∧
    (∃ t, exec (.stop 0) base = .next t) ∧ (∃ t, exec .nop base = .next t) ∧
    (let s := { base with mode := .halted, ie := 0x1F }; s.mode = .halted ∧ (s.latch 0x10).pending ≠ 0 ∧ (s.latch 0).pending = 0) ∧
    { base with mode := .stopped }.mode = .stopped := by
  refine ⟨by decide, by decide, ⟨_, rfl⟩, by decide, ⟨_, rfl⟩, ⟨_, rfl⟩, ⟨_, rfl⟩, by decide, by decide⟩

theorem test_witness_OnlyNamedInstructionsWriteTheControlBits :
    (∃ t, exec .ei base = .next t) ∧ (∃ t, exec .reti base = .next t) ∧ (∃ t, exec .halt base = .next t) := ⟨⟨_, rfl⟩, ⟨_, rfl⟩, ⟨_, rfl⟩⟩

/-- Each clause at the ends of its range: an idle step, one that goes on with IME set and nothing pending (the longest and the
shortest instruction), and one that dispatches before either. -/
theorem test_witness_StepCyclesWithinBounds_idle : ({ base with mode := .stopped } : State).wakeUp false = none ∧
    ∃ t, stepWith ⟨0, false⟩ { base with mode := .stopped } = .next (t, 1) := ⟨by decide, _, rfl⟩

theorem test_witness_StepCyclesWithinBounds_plain :
    (∃ s1, (put [0xCD] 0xC000 { base with ime := true }).wakeUp false = some s1 ∧ s1.ime = true ∧ s1.dispatchDue = false) ∧
    (∃ t, stepWith ⟨0, false⟩ (put [0xCD] 0xC000 { base with ime := true }) = .next (t, 6)) ∧
    (∃ t, stepWith ⟨0, false⟩ (put [0x00] 0xC000 { base with ime := true }) = .next (t, 1)) :=
  ⟨⟨put [0xCD] 0xC000 { base with ime := true }, by decide, by decide, by decide⟩, ⟨_, rfl⟩, ⟨_, rfl⟩⟩

theorem test_witness_StepCyclesWithinBounds_dispatch :
    (∃ s1, ({ base with ime := true, ie := 1, iflag := 1 } : State).wakeUp false = some s1 ∧ s1.dispatchDue = true) ∧
    (∃ t, stepWith ⟨0, false⟩ { base with ime := true, ie := 1, iflag := 1 } = .next (t, 6)) ∧
    (∃ t, stepWith ⟨0, false⟩ { base with ime := true, ie := 1, iflag := 1, mem := { base.mem with rom := [(0x40, 0xCD)] } } = .next (t, 11)) :=
  ⟨⟨{ base with ime := true, ie := 1, iflag := 1 }, by decide, by decide⟩, ⟨_, rfl⟩, ⟨_, rfl⟩⟩

/-- A stopped core idles through any number of steps, one M-cycle each. -/
def asleep : State := { base with mode := .stopped }

theorem test_asleep_step : stepTimed asleep = .next (asleep, 1) := rfl

theorem test_asleep_runs (k : Nat) : RunsTimed asleep k k asleep := by
  induction k with
  | zero => exact .refl
  | succ k ih => exact ih.tail test_asleep_step

theorem test_runTick_asleep (fuel total steps : Nat) : ∃ r, runTick fuel total steps asleep = .next r := by
  induction fuel generalizing total steps with
  | zero => exact ⟨_, rfl⟩
  | succ k ih =>
    rw [runTick, test_asleep_step]
    split
    · exact ih _ _
    · exact ⟨_, rfl⟩

theorem test_asleep_tick (sink : Bool) : ∃ r, tick completionDefault sink asleep = .next r := by
  obtain ⟨r, h⟩ := test_runTick_asleep Config.tickCycles 0 0
  rw [tick, h]
  exact ⟨_, rfl⟩

/-- The longest tick: 17555 steps of one M-cycle, and one more. -/
theorem test_witness_TickSpendsItsCycleBudget :
    (∃ r, tick completionDefault true asleep = .next r) ∧ RunsTimed asleep 17555 17555 asleep ∧ 17555 < 17556 ∧
    stepTimed asleep = .next (asleep, 1) ∧ 17556 ≤ 17555 + 1 :=
  ⟨test_asleep_tick true, test_asleep_runs 17555, by omega, test_asleep_step, by omega⟩

theorem test_witness_DefaultCompletionIsAJumpToItself :
    let s := put [0x18, 0xFE] 0xC000 base
    completionDefault s = true ∧ s.inputs = [] ∧ s.ime = false ∧ ({ s with ime := true } : State).pending = 0 ∧ s.imePending = false ∧
    s.haltBug = false := by decide

theorem test_witness_SnapshotOfAStateDecodesToIt : base.flagsClean ∧ base.memWf ∧ State.reset.flagsClean ∧ State.reset.memWf := by decide

/-- The snapshot of the reset state is accepted. -/
theorem test_witness_AcceptedSnapshotEncodesBack : ∃ t, decodeSnapshot (encodeSnapshot State.reset) = .ok t := by
  have hi : slice (encodeSnapshot State.reset) 15 0x10000 = State.reset.image := by
    rw [encodeSnapshot, List.append_assoc]
    exact slice_mid rfl (State.image_length _)
  have hl : (encodeSnapshot State.reset).length = Config.snapshotSize := by
    rw [encodeSnapshot, List.length_append, List.length_append, State.image_length, Memory.bytes_length]; rfl
  have h11 : (encodeSnapshot State.reset).getD 11 0 = State.reset.f := rfl
  have h12 : (encodeSnapshot State.reset).getD 12 0 = State.reset.ie := rfl
  have h13 : (encodeSnapshot State.reset).getD 13 0 = State.reset.ifByte := rfl
  have h14 : (encodeSnapshot State.reset).getD 14 0 = State.reset.modeByte := rfl
  have hok : snapshotOk (encodeSnapshot State.reset) = true := by
    simp only [snapshotOk, hi, hl, h11, h12, h13, h14, State.image_registers, State.image_open_bus, State.image_echo, beq_self_eq_true]
    decide
  exact ⟨_, if_pos hok⟩

/-- The first and the last address of either clause. -/
theorem test_witness_SnapshotLayout : (0x7FFF : Word).toNat < 0x8000 ∧ 0x8000 ≤ (0x8000 : Word).toNat ∧ 0x8000 ≤ (0xFFFF : Word).toNat ∧
    (0 < 256 ∧ 255 < 256) := by decide

/-- A running, a faulted and a released instance; a step and a tick that answer, and ones that fault. -/
theorem test_witness_HostCallsOnAnInstance :
    let inst := Instance.create (put [0xD3] 0xC000 base)
    inst.released = false ∧ inst.faulted = false ∧ { inst with faulted := true }.allows .encode = true ∧
    { inst with faulted := true }.allows (.tick true) = false ∧ { inst with released := true }.allows .encode = false ∧
    (∃ t n, stepWith ⟨0, false⟩ base = .next (t, n)) ∧ (∃ r, stepWith ⟨0, false⟩ inst.state = .fault r) ∧
    (∃ r, tick completionDefault true asleep = .next r) ∧ (∃ r, tick completionDefault false inst.state = .fault r) := by
  refine ⟨rfl, rfl, rfl, rfl, rfl, ⟨_, _, rfl⟩, ⟨_, rfl⟩, test_asleep_tick true, ⟨.illegalOpcode 0xD3 0xC000, ?_⟩⟩
  have h : stepTimed (put [0xD3] 0xC000 base) = .fault (.illegalOpcode 0xD3 0xC000) := rfl
  show tick completionDefault false (put [0xD3] 0xC000 base) = _
  rw [tick, Config.tickCycles, runTick, h]
  rfl

end Sys2Proof.Tests
end

section
/-! SUPPORT. One store and one read (spec/20_memory.md R60 to R76): what a store changes of each part of the state a read looks
at, and so which addresses read as before after it. -/

namespace Sys2Proof.Machine

/-! ## By the owner of the address (R63) -/

theorem State.read_of_cell {s : State} {a : Word} {r : Region} {i : Nat} (h : s.owner a = .cell r i) :
    s.read a = s.mem.get r i := by
  simp only [State.read, h]

theorem State.write_of_cell {s : State} {a : Word} {r : Region} {i : Nat} (h : s.owner a = .cell r i)
    (hw : r.writable = true) (v : Byte) : s.write a v = { s with mem := s.mem.put r i v } := by
  simp only [State.write, h, hw, if_true]

/-- A byte stored in a writable array reads back. -/
theorem State.read_write_cell {s : State} (hm : s.memWf) {a : Word} {r : Region} {i : Nat}
    (h : s.owner a = .cell r i) (hw : r.writable = true) (v : Byte) : (s.write a v).read a = v := by
  rw [State.write_of_cell h hw, State.read_of_cell (s := { s with mem := s.mem.put r i v }) h, Memory.get_put_self hm]

/-- R68: a byte stored in work RAM reads back. -/
theorem State.read_write_wram {s : State} (hm : s.memWf) {a : Word} (h1 : 0xC000 ≤ a.toNat) (h2 : a.toNat < 0xE000)
    (v : Byte) : (s.write a v).read a = v :=
  State.read_write_cell hm (ownerOf_wram s.bootMapped h1 h2) rfl v

/-! ## What one store leaves alone -/

/-- R74: only a store at 0xFF50 with bit 0 set unmaps the boot ROM. -/
theorem State.write_bootMapped_of_not_unmapping {s : State} {a : Word} {v : Byte}
    (h : ¬ (a = 0xFF50 ∧ v.getLsbD 0 = true)) : (s.write a v).bootMapped = s.bootMapped := by
  unfold State.write
  split
  case h_1 => split <;> rfl
  case h_3 ho =>
    have hv : v.getLsbD 0 = false :=
      Bool.eq_false_iff.2 fun hv => h ⟨BitVec.eq_of_toNat_eq (ownerOf_eq_bootReg.1 ho), hv⟩
    rw [hv, Bool.not_false, Bool.and_true]
  all_goals rfl

/-- R73: only a store at 0xFF0F writes `IF`. -/
theorem State.write_iflag_of_ne {s : State} {a : Word} (h : a ≠ 0xFF0F) (v : Byte) : (s.write a v).iflag = s.iflag := by
  unfold State.write
  split
  case h_1 => split <;> rfl
  case h_2 ho => exact absurd (BitVec.eq_of_toNat_eq (ownerOf_eq_ifReg.1 ho)) h
  all_goals rfl

/-- R76: only a store at 0xFFFF writes `IE`. -/
theorem State.write_ie_of_ne {s : State} {a : Word} (h : a ≠ 0xFFFF) (v : Byte) : (s.write a v).ie = s.ie := by
  unfold State.write
  split
  case h_1 => split <;> rfl
  case h_4 ho =>
    have hle : 0xFFFF ≤ a.toNat := ownerOf_eq_ieReg.1 ho
    exact absurd (by bv_omega) h
  all_goals rfl

theorem homeAddr_of_bootReg {bm : Bool} {a : Word} (h : ownerOf bm a.toNat = .bootReg) :
    (homeAddr a).toNat = Region.base .io + 0x50 := by
  rw [homeAddr_toNat, ownerOf_eq_bootReg.1 h]
  rfl

/-- A store leaves every byte of the arrays alone but the one whose home address it is given. -/
theorem State.get_write_of_ne {s : State} (hm : s.memWf) {a : Word} {r : Region} {i : Nat}
    (hne : r.writable = true → (homeAddr a).toNat ≠ r.base + i) (v : Byte) :
    (s.write a v).mem.get r i = s.mem.get r i := by
  unfold State.write
  split
  case h_1 q j ho =>
    split
    case isTrue hw =>
      refine Memory.get_put_ne hm v ?_
      by_contra hsame
      push Not at hsame
      obtain ⟨rfl, rfl⟩ := hsame
      exact hne hw (homeAddr_of_cell ho hw)
    case isFalse => rfl
  case h_3 ho =>
    refine Memory.get_put_ne hm v ?_
    by_contra hsame
    push Not at hsame
    obtain ⟨rfl, rfl⟩ := hsame
    exact hne rfl (homeAddr_of_bootReg ho)
  all_goals rfl

/-- A store changes the owner of an address only where it unmaps the boot ROM (R74). -/
theorem State.owner_write_of_not_reaches {s : State} {a b : Word} {v : Byte} (h : ¬ StoreReaches s a v b) :
    (s.write a v).owner b = s.owner b := by
  by_cases hb : b.toNat < 0x0100
  · have hmap : (s.write a v).bootMapped = s.bootMapped := by
      cases hoff : s.bootMapped
      · exact Bool.eq_false_iff.2 fun hon => by simp [State.write_bootMapped_le s a v hon] at hoff
      · rw [State.write_bootMapped_of_not_unmapping fun hun => h (Or.inr ⟨hun.1, hun.2, hoff, hb⟩), hoff]
    simp only [State.owner, hmap]
  · exact ownerOf_high _ _ (Nat.le_of_not_lt hb)

/-- R62: a store changes the reading of no address it does not reach. -/
theorem State.read_write_of_not_reaches {s : State} (hm : s.memWf) {a b : Word} {v : Byte}
    (h : ¬ StoreReaches s a v b) : (s.write a v).read b = s.read b := by
  have hhome : (homeAddr a).toNat ≠ (homeAddr b).toNat := fun heq => h (Or.inl (BitVec.eq_of_toNat_eq heq.symm))
  have hab : a ≠ b := fun heq => hhome (by rw [heq])
  unfold State.read
  rw [State.owner_write_of_not_reaches h]
  cases hb : s.owner b with
  | cell r i => exact State.get_write_of_ne hm (fun hw => homeAddr_of_cell hb hw ▸ hhome) v
  | ifReg =>
    have hb' : b = 0xFF0F := BitVec.eq_of_toNat_eq (ownerOf_eq_ifReg.1 hb)
    simp only [State.write_iflag_of_ne (hb' ▸ hab)]
  | bootReg => exact State.get_write_of_ne hm (fun _ => homeAddr_of_bootReg hb ▸ hhome) v
  | ieReg =>
    have hle : 0xFFFF ≤ b.toNat := ownerOf_eq_ieReg.1 hb
    exact State.write_ie_of_ne (by bv_omega) v
  | unmapped => rfl

end Sys2Proof.Machine
end

section
/-! SUPPORT. Push and pop against each other (spec/00_scope.md R13, spec/41_load16_stack.md R173 to R175), and O24. -/

namespace Sys2Proof.Machine

theorem State.fetched_memWf {s : State} (hm : s.memWf) (n : Nat) : (s.fetched n).memWf := by
  rwa [State.memWf, State.fetched_mem]

/-! ## The pairs the stack instructions name (R106) -/

/-- The pair written reads back; `AF` drops the low nibble of `F` (R22). -/
theorem State.getStk_setStk_self (s : State) (p : R16Stk) (w : Word) :
    (s.setStk p w).getStk p = if p = .AF then w &&& 0xFFF0 else w := by
  cases p with
  | BC => exact State.bc_setBC s w
  | DE => exact State.de_setDE s w
  | HL => exact State.hl_setHL s w
  | AF =>
    have hlo : lo w &&& 0xF0 = lo (w &&& 0xFFF0) := by simp [lo, BitVec.extractLsb'_and]
    have hhi : hi w = hi (w &&& 0xFFF0) := by
      rw [hi, hi, BitVec.extractLsb'_and]
      exact BitVec.and_allOnes.symm
    show join (hi w) (lo w &&& 0xF0) = w &&& 0xFFF0
    rw [hlo, hhi, join_hi_lo]

theorem State.getStk_setStk_ne (s : State) {p q : R16Stk} (h : q ≠ p) (w : Word) :
    (s.setStk p w).getStk q = s.getStk q := by
  cases p <;> cases q <;> first | rfl | exact absurd rfl h

@[simp] theorem State.setStk_sp (s : State) (p : R16Stk) (w : Word) : (s.setStk p w).sp = s.sp := by
  cases p <;> rfl

@[simp] theorem State.pop16_getStk (s : State) (p : R16Stk) : s.pop16.2.getStk p = s.getStk p := by
  cases p <;> rfl

@[simp] theorem State.push16_getStk (s : State) (w : Word) (p : R16Stk) : (s.push16 w).getStk p = s.getStk p := by
  cases p <;> simp [State.getStk, State.bc, State.de, State.hl, State.af]

/-! ## A word pushed into work RAM -/

/-- Outside the echo an address is its own home. -/
theorem homeAddr_of_lt {a : Word} (h : a.toNat < 0xE000) : homeAddr a = a :=
  if_neg fun hecho => absurd h (Nat.not_lt.2 hecho.1)

/-- In work RAM two addresses are two bytes: a store at one leaves the other alone. -/
theorem State.read_write_wram_ne {s : State} (hm : s.memWf) {a b : Word} (ha : 0xC000 ≤ a.toNat) (ha' : a.toNat < 0xE000)
    (hb : b.toNat < 0xE000) (hne : b ≠ a) (v : Byte) : (s.write a v).read b = s.read b := by
  refine State.read_write_of_not_reaches hm ?_
  rintro (hhome | ⟨rfl, -⟩)
  · rw [homeAddr_of_lt hb, homeAddr_of_lt ha'] at hhome
    exact hne hhome
  · exact absurd ha' (by decide)

/-- The word a push leaves in work RAM is the one the next pop reads. -/
theorem State.pop16_push16 {s : State} (hm : s.memWf) (h1 : 0xC002 ≤ s.sp.toNat) (h2 : s.sp.toNat ≤ 0xE000) (w : Word) :
    (s.push16 w).pop16.1 = w := by
  have hhigh : 0xC000 ≤ (s.sp - 1).toNat ∧ (s.sp - 1).toNat < 0xE000 := by bv_omega
  have hlow : 0xC000 ≤ (s.sp - 1 - 1).toNat ∧ (s.sp - 1 - 1).toNat < 0xE000 := by bv_omega
  have hne : s.sp - 1 ≠ s.sp - 1 - 1 := by bv_omega
  have hread : ∀ a, (s.push16 w).read a = ((s.write (s.sp - 1) (hi w)).write (s.sp - 1 - 1) (lo w)).read a := fun a => by
    rw [State.push16_eq]
    exact State.read_congr rfl rfl rfl rfl a
  have hm' := State.write_memWf hm (s.sp - 1) (hi w)
  rw [State.pop16_fst, State.push16_sp, BitVec.sub_add_cancel, hread, hread,
    State.read_write_wram_ne hm' hlow.1 hlow.2 hhigh.2 hne, State.read_write_wram hm hhigh.1 hhigh.2,
    State.read_write_wram hm' hlow.1 hlow.2, join_hi_lo]

/-! ## O24 -/

/-- Settles O24: both bytes of the pair lie in work RAM, so the pop reads the word the push wrote, and SP steps back. -/
theorem popAfterPushRestoresThePair : Obligations.PopAfterPushRestoresThePair := by
  unfold Obligations.PopAfterPushRestoresThePair
  intro s p q hm h1 h2
  have hword : ((push p (s.fetched 1)).fetched 1).pop16.1 = s.getStk p := by
    have hpop := State.pop16_push16 (State.fetched_memWf hm 1) (by simpa using h1) (by simpa using h2) (s.getStk p)
    simpa [State.pop16_fst, push] using hpop
  refine ⟨push p (s.fetched 1), pop q ((push p (s.fetched 1)).fetched 1), exec_pushR16 p s, exec_popR16 q _, ?_, ?_, ?_⟩
  · rw [pop, State.getStk_setStk_self, hword]
  · simp [pop, push, State.pop16_snd]
  · intro x hx
    rw [pop, State.getStk_setStk_ne _ hx]
    simp [push]

end Sys2Proof.Machine
end

section
/-! SUPPORT. The rules of `Frame`: no store, one store, one after the other, behind the fetch; the frames of the stack and of
control transfer (spec/00_scope.md R13, spec/45_control_flow.md), and O46. -/

namespace Sys2Proof.Machine

/-! ## The rules of `Frame` -/

/-- An operation that stores nothing: what it does to the registers, `SP` and `F` is all there is to say. -/
theorem Frame.of_noStore {regs : List R8} {m : Bool} {f : Byte} {s t : State}
    (hregs : ∀ r, r ≠ .mHL → r ∉ regs → t.getR8 r = s.getR8 r) (hsp : m = false → t.sp = s.sp)
    (hkept : (t.f ^^^ s.f) &&& (0xF0 &&& ~~~f) = 0) (hst : f = 0 → t.f = s.f) (hmem : t.mem = s.mem)
    (hboot : t.bootMapped = s.bootMapped) (hif : t.iflag = s.iflag) (hie : t.ie = s.ie) (hin : t.inputs = s.inputs) :
    Frame regs m f [] s t where
  registers := hregs
  stackPointer := hsp
  flagsKept := hkept
  statusKept := hst
  bytes := fun a _ => State.read_congr hmem hboot hif hie a
  cartridge := by rw [hmem]
  bootRom := by rw [hmem]
  requests := fun _ => hif
  enables := fun _ => hie
  overlay := fun _ => hboot
  inputs := hin

/-- Equal flags are kept flags. -/
theorem flagsKept_of_eq {x y mask : Byte} (h : x = y) : (x ^^^ y) &&& mask = 0 := by
  rw [h, BitVec.xor_self]
  exact BitVec.zero_and

/-- `PC` and the control bits are no part of the frame. -/
theorem Frame.of_control (s : State) (pc : Word) (ime ip hb : Bool) (mode : Mode) :
    Frame [] false 0 [] s { s with pc := pc, ime := ime, imePending := ip, haltBug := hb, mode := mode } :=
  .of_noStore (fun r _ _ => by cases r <;> rfl) (fun _ => rfl) (flagsKept_of_eq rfl)
    (fun _ => rfl) rfl rfl rfl rfl rfl

theorem Frame.refl (s : State) : Frame [] false 0 [] s s := Frame.of_control s s.pc s.ime s.imePending s.haltBug s.mode

theorem Frame.setPC (s : State) (pc : Word) : Frame [] false 0 [] s { s with pc := pc } :=
  Frame.of_control s pc s.ime s.imePending s.haltBug s.mode

theorem Frame.setSP (s : State) (sp : Word) : Frame [] true 0 [] s { s with sp := sp } :=
  .of_noStore (fun r _ _ => by cases r <;> rfl) (fun h => nomatch h) (flagsKept_of_eq rfl)
    (fun _ => rfl) rfl rfl rfl rfl rfl

/-- One store. -/
theorem Frame.write {s : State} (hm : s.memWf) (a : Word) (v : Byte) : Frame [] false 0 [(a, v)] s (s.write a v) where
  registers := fun r hr _ => by
    cases r with
    | mHL => exact absurd rfl hr
    | _ => simp [State.getR8]
  stackPointer := fun _ => State.write_sp s a v
  flagsKept := flagsKept_of_eq (State.write_f s a v)
  statusKept := fun _ => State.write_f s a v
  bytes := fun _ h => State.read_write_of_not_reaches hm (h (a, v) (List.mem_singleton_self _))
  cartridge := State.write_rom s a v
  bootRom := State.write_boot s a v
  requests := fun h => State.write_iflag_of_ne (h (a, v) (List.mem_singleton_self _)) v
  enables := fun h => State.write_ie_of_ne (h (a, v) (List.mem_singleton_self _)) v
  overlay := fun h => State.write_bootMapped_of_not_unmapping (h (a, v) (List.mem_singleton_self _))
  inputs := State.write_inputs s a v

/-- Flags kept twice are kept, under the union of the flags named. -/
theorem flagsKept_trans {x y z f g : Byte} (h : (y ^^^ x) &&& (0xF0 &&& ~~~f) = 0)
    (k : (z ^^^ y) &&& (0xF0 &&& ~~~g) = 0) : (z ^^^ x) &&& (0xF0 &&& ~~~(f ||| g)) = 0 := by
  have hf : (y ^^^ x) &&& (0xF0 &&& ~~~f) &&& ~~~g = 0 := by rw [h]; exact BitVec.zero_and
  have hg : (z ^^^ y) &&& (0xF0 &&& ~~~g) &&& ~~~f = 0 := by rw [k]; exact BitVec.zero_and
  refine BitVec.eq_of_getLsbD_eq fun i hi => ?_
  have hfi := congrArg (·.getLsbD i) hf
  have hgi := congrArg (·.getLsbD i) hg
  simp only [BitVec.getLsbD_and, BitVec.getLsbD_xor, BitVec.getLsbD_not, BitVec.getLsbD_or, hi, decide_true] at hfi hgi ⊢
  grind

/-- What a later state's stores reach, the earlier state's reach, where the boot ROM was not mapped in between. -/
theorem StoreReaches.of_later {s t : State} (hov : t.bootMapped = true → s.bootMapped = true) {a b : Word} {v : Byte}
    (h : StoreReaches t a v b) : StoreReaches s a v b :=
  h.imp id fun ⟨ha, hv, hm, hb⟩ => ⟨ha, hv, hov hm, hb⟩

/-- One operation after another: the lists add up. -/
theorem Frame.trans {r₁ r₂ : List R8} {m₁ m₂ : Bool} {f₁ f₂ : Byte} {st₁ st₂ : List (Word × Byte)} {s t u : State}
    (h : Frame r₁ m₁ f₁ st₁ s t) (hov : t.bootMapped = true → s.bootMapped = true) (k : Frame r₂ m₂ f₂ st₂ t u) :
    Frame (r₁ ++ r₂) (m₁ || m₂) (f₁ ||| f₂) (st₁ ++ st₂) s u where
  registers := fun r hr hn => by
    rw [List.mem_append, not_or] at hn
    exact (k.registers r hr hn.2).trans (h.registers r hr hn.1)
  stackPointer := fun hm => by
    rw [Bool.or_eq_false_iff] at hm
    exact (k.stackPointer hm.2).trans (h.stackPointer hm.1)
  flagsKept := flagsKept_trans h.flagsKept k.flagsKept
  statusKept := fun hf => by
    obtain ⟨hf₁, hf₂⟩ := BitVec.or_eq_zero_iff.1 hf
    exact (k.statusKept hf₂).trans (h.statusKept hf₁)
  bytes := fun a ha =>
    (k.bytes a fun p hp hr => ha p (List.mem_append_right _ hp) (hr.of_later hov)).trans
      (h.bytes a fun p hp => ha p (List.mem_append_left _ hp))
  cartridge := k.cartridge.trans h.cartridge
  bootRom := k.bootRom.trans h.bootRom
  requests := fun ha => (k.requests fun p hp => ha p (List.mem_append_right _ hp)).trans
    (h.requests fun p hp => ha p (List.mem_append_left _ hp))
  enables := fun ha => (k.enables fun p hp => ha p (List.mem_append_right _ hp)).trans
    (h.enables fun p hp => ha p (List.mem_append_left _ hp))
  overlay := fun ha => (k.overlay fun p hp => ha p (List.mem_append_right _ hp)).trans
    (h.overlay fun p hp => ha p (List.mem_append_left _ hp))
  inputs := k.inputs.trans h.inputs

/-- What changes neither a register nor a flag, before any operation: only `SP` and the stores add up. -/
theorem Frame.before {r : List R8} {m₁ m₂ : Bool} {f : Byte} {st₁ st₂ : List (Word × Byte)} {s t u : State}
    (h : Frame [] m₁ 0 st₁ s t) (hov : t.bootMapped = true → s.bootMapped = true) (k : Frame r m₂ f st₂ t u) :
    Frame r (m₁ || m₂) f (st₁ ++ st₂) s u := by
  have hor : (0 : Byte) ||| f = f := BitVec.zero_or
  have hboth := h.trans hov k
  rwa [hor] at hboth

/-! ## Behind the fetch (R12) -/

theorem Frame.fetched (n : Nat) (s : State) : Frame [] false 0 [] s (s.fetched n) := by
  rw [State.fetched_eq]
  exact Frame.of_control s _ s.ime s.imePending _ s.mode

/-- The frame of an operation is the frame of the instruction that completes with it. -/
theorem Frame.of_complete {regs : List R8} {m : Bool} {f : Byte} {st : List (Word × Byte)} {n : Nat}
    {operation : State → State} {s t : State} (h : complete n operation s = .next t)
    (hf : Frame regs m f st (s.fetched n) (operation (s.fetched n))) : Frame regs m f st s t := by
  rw [complete_next h]
  exact (Frame.fetched n s).before (by simp) hf

/-- An instruction whose operation keeps the control bits has the control bits it found, without the halt bug. -/
theorem SameControl.of_complete {n : Nat} {operation : State → State} {s t : State}
    (h : complete (n + 1) operation s = .next t) (hk : Keeps (s.fetched (n + 1)) (operation (s.fetched (n + 1)))) :
    SameControl s t := by
  rw [complete_next h]
  exact ⟨by rw [hk.ime, State.fetched_ime], by rw [hk.imePending, State.fetched_imePending],
    by rw [hk.mode, State.fetched_mode], by rw [hk.haltBug, State.fetched_haltBug]⟩

/-! ## The stack -/

theorem State.push16_frame {s : State} (hm : s.memWf) (w : Word) :
    Frame [] true 0 [(s.sp - 1, hi w), (s.sp - 2, lo w)] s (s.push16 w) := by
  have hsp : s.sp - 2 = s.sp - 1 - 1 := by bv_omega
  have hkeep := State.write_keeps s (s.sp - 1) (hi w)
  rw [State.push16_eq, hsp]
  have hstores := (Frame.write hm (s.sp - 1) (hi w)).before hkeep.overlay
    (Frame.write (hkeep.memWf hm) (s.sp - 1 - 1) (lo w))
  exact hstores.before (fun h => hkeep.overlay ((State.write_keeps _ _ _).overlay h)) (Frame.setSP _ _)

theorem push_frame {s : State} (hm : s.memWf) (p : R16Stk) :
    Frame [] true 0 [(s.sp - 1, hi (s.getStk p)), (s.sp - 2, lo (s.getStk p))] s (push p s) :=
  State.push16_frame hm _

theorem call_frame {s : State} (hm : s.memWf) (target : Word) :
    Frame [] true 0 [(s.sp - 1, hi s.pc), (s.sp - 2, lo s.pc)] s (call target s) :=
  (State.push16_frame hm s.pc).before (State.push16_keeps s s.pc).overlay (Frame.setPC _ target)

/-- The return address is `PC` behind the fetch; `SP` is the one before it (R296). -/
theorem call_fetched_frame {s : State} (hm : s.memWf) (n : Nat) (target : Word) :
    Frame [] true 0 [(s.sp - 1, hi (s.fetched n).pc), (s.sp - 2, lo (s.fetched n).pc)] (s.fetched n)
      (call target (s.fetched n)) := by
  have hf := call_frame (State.fetched_memWf hm n) target
  rwa [State.fetched_sp] at hf

theorem storeSP_frame {s : State} (hm : s.memWf) (nn : Word) :
    Frame [] false 0 [(nn, lo s.sp), (nn + 1, hi s.sp)] s (storeSP nn s) :=
  have hkeep := State.write_keeps s nn (lo s.sp)
  (Frame.write hm nn (lo s.sp)).before hkeep.overlay (Frame.write (hkeep.memWf hm) (nn + 1) (hi s.sp))

theorem State.pop16_frame (s : State) : Frame [] true 0 [] s s.pop16.2 := Frame.setSP s _

/-- The registers of R104 a popped pair is made of (R106); `F` is none of them. -/
def stkRegisters : R16Stk → List R8
  | .BC => [.B, .C]
  | .DE => [.D, .E]
  | .HL => [.H, .L]
  | .AF => [.A]

/-- A popped pair is two registers, but that `AF` is `A` and all four flags (R175). -/
theorem State.setStk_frame (s : State) (p : R16Stk) (w : Word) :
    Frame (stkRegisters p) false (if p = .AF then 0xF0 else 0) [] s (s.setStk p w) := by
  cases p with
  | AF =>
    refine .of_noStore (fun r hr hn => ?_) (fun _ => rfl) BitVec.and_zero (fun h => absurd h (by decide)) rfl rfl rfl rfl rfl
    cases r <;> first | rfl | exact absurd rfl hr | exact absurd (by decide) hn
  | _ =>
    refine .of_noStore (fun r hr hn => ?_) (fun _ => rfl) (flagsKept_of_eq rfl) (fun _ => rfl) rfl rfl rfl rfl rfl
    cases r <;> first | rfl | exact absurd rfl hr | exact absurd (by decide) hn

theorem pop_frame (s : State) (p : R16Stk) :
    Frame (stkRegisters p) true (if p = .AF then 0xF0 else 0) [] s (pop p s) :=
  (State.pop16_frame s).before (State.pop16_keeps s).overlay (State.setStk_frame s.pop16.2 p s.pop16.1)

/-! ## Control transfer -/

theorem ret_frame (s : State) : Frame [] true 0 [] s (ret s) :=
  (State.pop16_frame s).before (State.pop16_keeps s).overlay (Frame.setPC _ _)

theorem returnFromInterrupt_frame (s : State) : Frame [] true 0 [] s s.returnFromInterrupt :=
  (ret_frame s).before (ret_keeps s).overlay (Frame.of_control (ret s) _ true _ _ _)

theorem when_pos {cc : Cond} {s : State} (h : s.cond cc = true) (operation : State → State) :
    when cc operation s = operation s := if_pos h

theorem when_neg {cc : Cond} {s : State} (h : s.cond cc = false) (operation : State → State) :
    when cc operation s = s := if_neg (by rw [h]; decide)

/-- A jump, taken or not, changes `PC` alone. -/
theorem when_frame {operation : State → State} {s : State} (cc : Cond) (h : Frame [] false 0 [] s (operation s)) :
    Frame [] false 0 [] s (when cc operation s) := by
  cases hcc : s.cond cc
  · rw [when_neg hcc]; exact Frame.refl s
  · rwa [when_pos hcc]

theorem jump_frame (target : Word) (s : State) : Frame [] false 0 [] s (jump target s) := Frame.setPC s target
theorem jumpRel_frame (e : Byte) (s : State) : Frame [] false 0 [] s (jumpRel e s) := Frame.setPC s _

/-! ## System instructions -/

theorem nopOp_frame (s : State) : Frame [] false 0 [] s (nopOp s) := Frame.refl s

theorem haltOp_frame (s : State) : Frame [] false 0 [] s (haltOp s) := by
  rw [haltOp_eq]
  exact Frame.of_control s s.pc s.ime s.imePending _ _

theorem stopOp_frame (s : State) : Frame [] false 0 [] s (stopOp s) :=
  Frame.of_control s s.pc s.ime s.imePending s.haltBug .stopped

theorem diOp_frame (s : State) : Frame [] false 0 [] s (diOp s) := Frame.of_control s s.pc false false s.haltBug s.mode

theorem eiOp_frame (s : State) : Frame [] false 0 [] s (eiOp s) := Frame.of_control s s.pc s.ime true s.haltBug s.mode

/-! ## O46 -/

/-- Settles O46: each form completes with an operation whose frame and control bits the lemmas above give. -/
theorem stackAndTransferFormsFrame : Obligations.StackAndTransferFormsFrame := by
  unfold Obligations.StackAndTransferFormsFrame
  intro s t hm
  refine ⟨fun p h => ?_, fun nn h => ?_, fun cc nn h => ?_, fun y h => ?_, fun nn h => ?_, fun p h => ?_, fun h => ?_,
    fun cc h => ?_, fun h => ?_, fun cc e nn h => ?_, fun pad h => ?_⟩
  · rw [exec_pushR16] at h
    have hf := push_frame (State.fetched_memWf hm 1) p
    simp only [State.fetched_sp, State.fetched_getStk] at hf
    exact ⟨.of_complete h hf, .of_complete h (push_keeps p _)⟩
  · exact ⟨.of_complete h (call_fetched_frame hm 3 nn), .of_complete h (call_keeps nn _)⟩
  · rw [exec_callCond] at h
    refine ⟨?_, .of_complete h (when_keeps cc _ (call_keeps nn _))⟩
    split
    case isTrue hcc =>
      refine .of_complete h ?_
      rw [when_pos (by rwa [State.fetched_cond])]
      exact call_fetched_frame hm 3 nn
    case isFalse hcc =>
      refine .of_complete h ?_
      rw [when_neg (by rwa [State.fetched_cond, ← Bool.not_eq_true])]
      exact Frame.refl _
  · rw [exec_rstTo] at h
    exact ⟨.of_complete h (call_fetched_frame hm 1 _), .of_complete h (call_keeps _ _)⟩
  · have hf := storeSP_frame (State.fetched_memWf hm 3) nn
    rw [State.fetched_sp] at hf
    exact ⟨.of_complete h hf, .of_complete h (storeSP_keeps nn _)⟩
  · rw [exec_popR16] at h
    have hf := Frame.of_complete h (pop_frame _ p)
    exact ⟨by cases p <;> exact hf, .of_complete h (pop_keeps p _)⟩
  · exact ⟨.of_complete h (ret_frame _), .of_complete h (ret_keeps _)⟩
  · rw [exec_retCond] at h
    refine ⟨.of_complete h ?_, .of_complete h (when_keeps cc _ (ret_keeps _))⟩
    cases hcc : s.cond cc
    · rw [when_neg (by rwa [State.fetched_cond])]
      exact Frame.refl _
    · rw [when_pos (by rwa [State.fetched_cond])]
      exact ret_frame _
  · exact .of_complete h (returnFromInterrupt_frame _)
  · rw [exec_jpCond, exec_jrCond] at h
    rcases h with h | h | h | h | h
    · exact ⟨.of_complete h (jump_frame nn _), .of_complete h (jump_keeps nn _)⟩
    · exact ⟨.of_complete h (jump_frame _ _), .of_complete h (jump_keeps _ _)⟩
    · exact ⟨.of_complete h (jumpRel_frame e _), .of_complete h (jumpRel_keeps e _)⟩
    · exact ⟨.of_complete h (when_frame cc (jump_frame nn _)), .of_complete h (when_keeps cc _ (jump_keeps nn _))⟩
    · exact ⟨.of_complete h (when_frame cc (jumpRel_frame e _)), .of_complete h (when_keeps cc _ (jumpRel_keeps e _))⟩
  · rcases h with h | h | h | h | h
    · exact .of_complete h (nopOp_frame _)
    · exact .of_complete h (haltOp_frame _)
    · exact .of_complete h (stopOp_frame _)
    · exact .of_complete h (diOp_frame _)
    · exact .of_complete h (eiOp_frame _)

end Sys2Proof.Machine
end

section
/-! SUPPORT. One step and its fetch (spec/00_scope.md R12, spec/60_exceptions.md R400), and O13 and O17. -/

namespace Sys2Proof.Machine

/-- What the decoder reads from three bytes is the instruction selected by them. -/
theorem decodeBytes_of_decode {op b1 b2 : Byte} {i : Instr} {rest : List Byte}
    (h : decode [op, b1, b2] = .ok (i, rest)) : decodeBytes op b1 b2 = i := by
  unfold decode at h
  dsimp only at h
  split at h
  · cases h
  · cases h
    rfl

/-- A step that goes on is `exec` of the next instruction in the ready state. -/
theorem step_of_wakeUp {s s1 : State}
    (h : ({ s with inputs := s.inputs.tail }.latch (s.inputs.headD .none).irq).wakeUp (s.inputs.headD .none).wake = some s1) :
    step s = exec s1.ready.nextInstr s1.ready := by
  unfold step stepState stepTimed stepWith
  simp only [h]
  cases exec s1.ready.nextInstr s1.ready <;> rfl

/-- Its cycles are the instruction's, and the dispatch's where one was due (R404, R406). -/
theorem stepTimed_of_exec_next {s s1 t : State}
    (h : ({ s with inputs := s.inputs.tail }.latch (s.inputs.headD .none).irq).wakeUp (s.inputs.headD .none).wake = some s1)
    (he : exec s1.ready.nextInstr s1.ready = .next t) :
    stepTimed s = .next (t, (if s1.dispatchDue then 5 else 0) + cycles s1.ready.nextInstr s1.ready) := by
  unfold stepTimed stepWith
  simp only [h, he]
  rfl

/-- Settles O13: the two fetch cases name the instruction the step reads; the step is then `exec` of it. -/
theorem stepRunsTheDecodedInstruction : Obligations.StepRunsTheDecodedInstruction := by
  unfold Obligations.StepRunsTheDecodedInstruction
  intro s s1 i rest hwake hfetch
  have hinstr : s1.ready.nextInstr = i := by
    rcases hfetch with ⟨hbug, hdec⟩ | ⟨hbug, hdec⟩
    · rw [State.nextInstr_of_noBug hbug, BitVec.add_assoc]
      exact decodeBytes_of_decode hdec
    · rw [State.nextInstr_of_bug hbug]
      exact decodeBytes_of_decode hdec
  subst hinstr
  exact ⟨step_of_wakeUp hwake, fun t he => stepTimed_of_exec_next hwake he⟩

/-! ## The fetch (R12) -/

theorem State.fetch8_of_noBug {s : State} (h : s.haltBug = false) :
    s.fetch8 = (s.read s.pc, { s with pc := s.pc + 1 }) := by
  simp [State.fetch8, h]

theorem State.fetch8_of_bug {s : State} (h : s.haltBug = true) :
    s.fetch8 = (s.read s.pc, { s with haltBug := false }) := by
  simp [State.fetch8, h]

/-- R118: the byte 0xCB behind itself selects `SET 1,E`. -/
theorem decodeBytes_cb_cb (b : Byte) : decodeBytes 0xCB 0xCB b = .set_1_E := rfl

/-- Settles O17: the halt bug keeps PC for one byte, so the byte at PC is read twice. -/
theorem fetchAndTheHaltBug : Obligations.FetchAndTheHaltBug := by
  unfold Obligations.FetchAndTheHaltBug
  intro s n
  refine ⟨fun h => ⟨State.fetch8_of_noBug h, State.fetched_of_noBug h (n + 1)⟩,
    fun h => ⟨State.fetch8_of_bug h, State.fetched_of_bug h n, fun hcb => ?_⟩⟩
  rw [State.nextInstr_of_bug h, hcb, decodeBytes_cb_cb]

end Sys2Proof.Machine
end

section
/-! SUPPORT. What an instruction can do when it completes, said once (`Effect`), found along the structure of the decoder
(spec/30_encoding.md R103, R113, R115), and O52. -/

namespace Sys2Proof.Machine

/-! ## Every instruction but `prefix_CB` is decoded from its bytes -/

/-- R100: an instruction has at least one byte. -/
theorem encode_ne_nil (i : Instr) : encode i ≠ [] := by
  cases i <;> exact List.cons_ne_nil _ _

/-- R114: the bytes of an instruction select it. -/
theorem decodeBytes_of_encode {i : Instr} (h : i.isPrefixRow = false) {op : Byte} {rest : List Byte}
    (he : encode i = op :: rest) : decodeBytes op (rest.getD 0 0) (rest.getD 1 0) = i := by
  cases i with
  | prefix_CB op2 => cases h
  | ld_BC_nn nn | ld_DE_nn nn | ld_HL_nn nn | ld_SP_nn nn | ld_mnn_SP nn | ld_mnn_A nn | ld_A_mnn nn
  | jp_nn nn | jp_NZ_nn nn | jp_Z_nn nn | jp_NC_nn nn | jp_C_nn nn
  | call_nn nn | call_NZ_nn nn | call_Z_nn nn | call_NC_nn nn | call_C_nn nn =>
    cases he
    conv_rhs => rw [← join_hi_lo nn]
    rfl
  | _ => cases he; rfl

/-- A property of eight things is one of the `i`-th of them. -/
theorem sel8_forall {α : Type} {P : α → Prop} (i : Nat) {x0 x1 x2 x3 x4 x5 x6 x7 : α} (h0 : P x0) (h1 : P x1)
    (h2 : P x2) (h3 : P x3) (h4 : P x4) (h5 : P x5) (h6 : P x6) (h7 : P x7) : P (sel8 i x0 x1 x2 x3 x4 x5 x6 x7) := by
  unfold sel8
  split <;> assumption

theorem sel4_forall {α : Type} {P : α → Prop} (i : Nat) {x0 x1 x2 x3 : α} (h0 : P x0) (h1 : P x1) (h2 : P x2)
    (h3 : P x3) : P (sel4 i x0 x1 x2 x3) := by
  unfold sel4
  split <;> assumption

/-! ## What an instruction can do -/

/-- What an instruction that completes does to a state: it fetches at least one byte, and what follows keeps what every
operation keeps, but for the five instructions that write a control bit. -/
inductive Effect (s : State) : Instr → State → Prop where
  | keeps {i : Instr} {t : State} (n : Nat) (h : Keeps (s.fetched (n + 1)) t) : Effect s i t
  | halt : Effect s .halt (haltOp (s.fetched 1))
  | stop (pad : Byte) : Effect s (.stop pad) (stopOp (s.fetched 2))
  | di : Effect s .di (diOp (s.fetched 1))
  | ei : Effect s .ei (eiOp (s.fetched 1))
  | reti : Effect s .reti (s.fetched 1).returnFromInterrupt

/-- Whatever the instruction answers as its next state is an effect of it. -/
def HasEffect (i : Instr) : Prop := ∀ s t : State, exec i s = .next t → Effect s i t

theorem HasEffect.of_effect {i : Instr} {n : Nat} {operation : State → State}
    (hexec : ∀ s, exec i s = complete n operation s) (he : ∀ s, Effect s i (operation (s.fetched n))) : HasEffect i := by
  intro s t h
  rw [hexec] at h
  rw [complete_next h]
  exact he s

/-- An instruction whose operation keeps what every operation keeps. -/
theorem HasEffect.of_keeps {i : Instr} {n : Nat} {operation : State → State}
    (hexec : ∀ s, exec i s = complete (n + 1) operation s) (hk : ∀ s, Keeps s (operation s)) : HasEffect i :=
  .of_effect hexec fun _ => .keeps n (hk _)

/-- An instruction that answers no next state has no effect to state. -/
theorem HasEffect.of_fault {i : Instr} {op : Byte} (hexec : ∀ s, exec i s = illegal op s) : HasEffect i := by
  intro s t h
  rw [hexec] at h
  cases h

/-- The slot of `LD (HL),(HL)` is `HALT` (R321). -/
theorem hasEffect_ldR8R8 (d r : R8) : HasEffect (ldR8R8 d r) := by
  by_cases hhalt : d = .mHL ∧ r = .mHL
  · obtain ⟨rfl, rfl⟩ := hhalt
    exact .of_effect (fun _ => rfl) fun _ => .halt
  · exact .of_keeps (exec_ldR8R8 hhalt) (ldR8_keeps d r)

theorem hasEffect_accOp (y : Nat) : HasEffect (accOp y) :=
  sel8_forall y (.of_keeps (fun _ => rfl) (rotA_keeps .rlc)) (.of_keeps (fun _ => rfl) (rotA_keeps .rrc))
    (.of_keeps (fun _ => rfl) (rotA_keeps .rl)) (.of_keeps (fun _ => rfl) (rotA_keeps .rr))
    (.of_keeps (fun _ => rfl) daaOp_keeps) (.of_keeps (fun _ => rfl) cplOp_keeps)
    (.of_keeps (fun _ => rfl) scfOp_keeps) (.of_keeps (fun _ => rfl) ccfOp_keeps)

theorem hasEffect_jrCond (cc : Cond) (e : Byte) : HasEffect (jrCond cc e) :=
  .of_keeps (exec_jrCond cc e) fun s => when_keeps cc s (jumpRel_keeps e s)

theorem hasEffect_jpCond (cc : Cond) (nn : Word) : HasEffect (jpCond cc nn) :=
  .of_keeps (exec_jpCond cc nn) fun s => when_keeps cc s (jump_keeps nn s)

theorem hasEffect_callCond (cc : Cond) (nn : Word) : HasEffect (callCond cc nn) :=
  .of_keeps (exec_callCond cc nn) fun s => when_keeps cc s (call_keeps nn s)

theorem hasEffect_retCond (cc : Cond) : HasEffect (retCond cc) :=
  .of_keeps (exec_retCond cc) fun s => when_keeps cc s (ret_keeps s)

/-- The second page (R115). -/
theorem hasEffect_decodeCb (op2 : Byte) : HasEffect (decodeCb op2) := by
  unfold decodeCb
  dsimp only
  split
  · exact .of_keeps (exec_rotR8 _ _) (rotOp_keeps _ _)
  · exact .of_keeps (exec_bitR8 _ _) (bitOp_keeps _ _)
  · exact .of_keeps (exec_resR8 _ _) (resOp_keeps _ _)
  · exact .of_keeps (exec_setR8 _ _) (setOp_keeps _ _)

/-- The quadrant `x = 0` (R113), by its column `z`. -/
theorem hasEffect_decodeX0 (y z : Nat) (b1 b2 : Byte) : HasEffect (decodeX0 y z b1 b2) := by
  unfold decodeX0
  split
  · exact sel8_forall y (.of_keeps (fun _ => rfl) Keeps.refl) (.of_keeps (fun _ => rfl) (storeSP_keeps _))
      (.of_effect (fun _ => rfl) fun _ => .stop b1) (.of_keeps (fun _ => rfl) (jumpRel_keeps b1))
      (hasEffect_jrCond _ _) (hasEffect_jrCond _ _) (hasEffect_jrCond _ _) (hasEffect_jrCond _ _)
  · split
    · exact .of_keeps (exec_ldR16Imm _ _) (ldPair_keeps _ _)
    · exact .of_keeps (exec_addHlR16 _) (addHL_keeps _)
  · split
    · exact .of_keeps (exec_storeAMem _) (storeMem_keeps _)
    · exact .of_keeps (exec_loadAMem _) (loadMem_keeps _)
  · split
    · exact .of_keeps (exec_incR16 _) (incPair_keeps _)
    · exact .of_keeps (exec_decR16 _) (decPair_keeps _)
  · exact .of_keeps (exec_incR8 _) (incOp_keeps _)
  · exact .of_keeps (exec_decR8 _) (decOp_keeps _)
  · exact .of_keeps (exec_ldR8Imm _ _) (ldImm_keeps _ _)
  · exact hasEffect_accOp y

/-- The quadrant `x = 3` (R113), by its column `z`; the illegal bytes answer no next state (R116). -/
theorem hasEffect_decodeX3 (y z : Nat) (b1 b2 : Byte) : HasEffect (decodeX3 y z b1 b2) := by
  unfold decodeX3
  split
  · exact sel8_forall y (hasEffect_retCond _) (hasEffect_retCond _) (hasEffect_retCond _) (hasEffect_retCond _)
      (.of_keeps (fun _ => rfl) (storeA_keeps _)) (.of_keeps (fun _ => rfl) (addSP_keeps _))
      (.of_keeps (fun _ => rfl) (loadA_keeps _)) (.of_keeps (fun _ => rfl) (ldHLSP_keeps _))
  · split
    · exact .of_keeps (exec_popR16 _) (pop_keeps _)
    · exact sel4_forall _ (.of_keeps (fun _ => rfl) ret_keeps) (.of_effect (fun _ => rfl) fun _ => .reti)
        (.of_keeps (fun _ => rfl) fun s => jump_keeps s.hl s) (.of_keeps (fun _ => rfl) ldSPHL_keeps)
  · exact sel8_forall y (hasEffect_jpCond _ _) (hasEffect_jpCond _ _) (hasEffect_jpCond _ _) (hasEffect_jpCond _ _)
      (.of_keeps (fun _ => rfl) fun s => storeA_keeps (highPage s.c) s) (.of_keeps (fun _ => rfl) (storeA_keeps _))
      (.of_keeps (fun _ => rfl) fun s => loadA_keeps (highPage s.c) s) (.of_keeps (fun _ => rfl) (loadA_keeps _))
  · exact sel8_forall y (.of_keeps (fun _ => rfl) (jump_keeps _)) (hasEffect_decodeCb b1) (.of_fault fun _ => rfl)
      (.of_fault fun _ => rfl) (.of_fault fun _ => rfl) (.of_fault fun _ => rfl)
      (.of_effect (fun _ => rfl) fun _ => .di) (.of_effect (fun _ => rfl) fun _ => .ei)
  · exact sel8_forall y (hasEffect_callCond _ _) (hasEffect_callCond _ _) (hasEffect_callCond _ _)
      (hasEffect_callCond _ _) (.of_fault fun _ => rfl) (.of_fault fun _ => rfl) (.of_fault fun _ => rfl)
      (.of_fault fun _ => rfl)
  · split
    · exact .of_keeps (exec_pushR16 _) (push_keeps _)
    · exact sel4_forall _ (.of_keeps (fun _ => rfl) (call_keeps _)) (.of_fault fun _ => rfl) (.of_fault fun _ => rfl)
        (.of_fault fun _ => rfl)
  · exact .of_keeps (exec_aluImm _ _) (aluOp_keeps _ _)
  · exact .of_keeps (exec_rstTo _) (call_keeps _)

theorem hasEffect_decodeBytes (op b1 b2 : Byte) : HasEffect (decodeBytes op b1 b2) := by
  unfold decodeBytes
  split
  · exact hasEffect_decodeX0 _ _ b1 b2
  · exact hasEffect_ldR8R8 _ _
  · exact .of_keeps (exec_aluR8 _ _) (aluReg_keeps _ _)
  · exact hasEffect_decodeX3 _ _ b1 b2

/-- R118: the row of 0xCB has the operation of the instruction its second byte selects. -/
theorem hasEffect_prefix_CB (op2 : Byte) : HasEffect (.prefix_CB op2) :=
  .of_keeps (fun _ => rfl) (cbOperation_keeps op2)

/-- Whatever an instruction, of any constructor, answers as its next state is an effect of it. -/
theorem effect_of_exec {i : Instr} {s t : State} (h : exec i s = .next t) : Effect s i t := by
  cases hrow : i.isPrefixRow
  · obtain ⟨op, rest, he⟩ := List.exists_cons_of_ne_nil (encode_ne_nil i)
    rw [← decodeBytes_of_encode hrow he] at h ⊢
    exact hasEffect_decodeBytes _ _ _ s t h
  · cases i with
    | prefix_CB op2 => exact hasEffect_prefix_CB op2 s t h
    | _ => cases hrow

/-! ## O52 -/

/-- Settles O52: the effect either keeps the control bits behind the fetch, which cleared the halt bug, or is one of the
five that name the bit they write. -/
theorem onlyNamedInstructionsWriteTheControlBits : Obligations.OnlyNamedInstructionsWriteTheControlBits := by
  unfold Obligations.OnlyNamedInstructionsWriteTheControlBits
  intro i s t h
  cases effect_of_exec h with
  | keeps n hk =>
    exact ⟨fun _ _ => by rw [hk.ime, State.fetched_ime], fun _ _ => by rw [hk.imePending, State.fetched_imePending],
      fun _ => by rw [hk.haltBug, State.fetched_haltBug]⟩
  | halt =>
    rw [haltOp_eq]
    exact ⟨fun _ _ => State.fetched_ime 1 s, fun _ _ => State.fetched_imePending 1 s, fun hne => absurd rfl hne⟩
  | stop pad =>
    exact ⟨fun _ _ => State.fetched_ime 2 s, fun _ _ => State.fetched_imePending 2 s, fun _ => State.fetched_haltBug s 1⟩
  | di => exact ⟨fun hne => absurd rfl hne, fun hne => absurd rfl hne, fun _ => State.fetched_haltBug s 0⟩
  | ei => exact ⟨fun _ _ => State.fetched_ime 1 s, fun _ hne => absurd rfl hne, fun _ => State.fetched_haltBug s 0⟩
  | reti =>
    exact ⟨fun _ hne => absurd rfl hne, fun _ _ => State.fetched_imePending 1 s, fun _ => State.fetched_haltBug s 0⟩

end Sys2Proof.Machine
end

section
/-! SUPPORT. What a step and a run keep (spec/10_state.md R21, R32 to R34, spec/60_exceptions.md R400), and O48 and O50. -/

namespace Sys2Proof.Machine

/-! ## What a step keeps -/

/-- What every step keeps, whatever it does to the control bits: the read-only arrays, an overlay that is off, the canonical
form of memory, and a clean low nibble of `F`. -/
structure Preserves (s t : State) : Prop where
  rom : t.mem.rom = s.mem.rom
  boot : t.mem.boot = s.mem.boot
  overlay : t.bootMapped = true → s.bootMapped = true
  memWf : s.memWf → t.memWf
  flags : s.flagsClean → t.flagsClean

theorem Preserves.trans {s t u : State} (h : Preserves s t) (k : Preserves t u) : Preserves s u where
  rom := k.rom.trans h.rom
  boot := k.boot.trans h.boot
  overlay := h.overlay ∘ k.overlay
  memWf := k.memWf ∘ h.memWf
  flags := k.flags ∘ h.flags

theorem Keeps.preserves {s t : State} (h : Keeps s t) : Preserves s t := ⟨h.rom, h.boot, h.overlay, h.memWf, h.flags⟩

/-- `PC`, the control bits, `IF` and the host's inputs are no part of it. -/
theorem Preserves.of_control (s : State) (pc : Word) (ime ip hb : Bool) (mode : Mode) (iflag : BitVec 5)
    (inputs : List StepInput) :
    Preserves s { s with pc, ime, imePending := ip, haltBug := hb, mode, iflag, inputs } :=
  ⟨rfl, rfl, id, id, id⟩

theorem Preserves.refl (s : State) : Preserves s s := (Keeps.refl s).preserves

theorem State.fetched_preserves (n : Nat) (s : State) : Preserves s (s.fetched n) := by
  rw [State.fetched_eq]
  exact .of_control s ..

theorem State.dispatch_preserves (s : State) : Preserves s s.dispatch :=
  (Preserves.of_control s ..).trans s.dispatch_keeps.preserves

theorem Effect.preserves {s t : State} {i : Instr} (h : Effect s i t) : Preserves s t := by
  cases h with
  | keeps n hk => exact (s.fetched_preserves _).trans hk.preserves
  | halt =>
    rw [haltOp_eq]
    exact (s.fetched_preserves _).trans (.of_control ..)
  | stop pad => exact (s.fetched_preserves _).trans (.of_control ..)
  | di => exact (s.fetched_preserves _).trans (.of_control ..)
  | ei => exact (s.fetched_preserves _).trans (.of_control ..)
  | reti => exact (s.fetched_preserves _).trans ((ret_keeps _).preserves.trans (.of_control ..))

/-! ## The ready state -/

theorem State.ready_preserves (s : State) : Preserves s s.ready := by
  rcases s.ready_cases with ⟨-, -, he⟩ | ⟨-, he⟩ | ⟨-, -, he⟩ <;> rw [he]
  · exact .refl s
  · exact s.dispatch_preserves
  · exact .of_control s ..

theorem State.ready_mode (s : State) : s.ready.mode = s.mode := by
  rcases s.ready_cases with ⟨-, -, he⟩ | ⟨-, he⟩ | ⟨-, -, he⟩ <;> rw [he]
  exact s.dispatch_keeps.mode

/-- A pending `EI` has been applied, or the dispatch has dropped it. -/
theorem State.ready_imePending (s : State) : s.ready.imePending = false := by
  rcases s.ready_cases with ⟨-, hp, he⟩ | ⟨-, he⟩ | ⟨-, -, he⟩ <;> rw [he]
  · exact hp
  · exact s.dispatch_keeps.imePending

/-! ## The step -/

/-- The state a step begins with: its input off the queue, and the requests of that input latched. -/
def State.latched (s : State) : State := { s with inputs := s.inputs.tail }.latch (s.inputs.headD .none).irq

/-- What one step can do: nothing more than the latch, or an effect of an instruction in the ready state. -/
theorem step_next_cases {s t : State} (h : step s = .next t) :
    t = s.latched ∨ ∃ i, Effect { s.latched with mode := .running }.ready i t := by
  obtain ⟨n, hn⟩ := step_next_iff.1 h
  rcases stepWith_next hn with ⟨-, rfl, -⟩ | ⟨s1, hw, he, -⟩
  · exact .inl rfl
  · rw [State.wakeUp_some hw] at he
    exact .inr ⟨_, effect_of_exec he⟩

theorem step_preserves {s t : State} (h : step s = .next t) : Preserves s t := by
  rcases step_next_cases h with rfl | ⟨i, he⟩
  · exact .of_control s ..
  · exact ((Preserves.of_control s ..).trans (State.ready_preserves _)).trans he.preserves

/-! ## O48 and O50 -/

theorem State.haltBugSafe_of_noBug {s : State} (h : s.haltBug = false) : s.haltBugSafe := fun harmed => by
  rw [h] at harmed
  cases harmed

/-- `HALT` arms the halt bug in the state it runs in, and with `IME` off (R321, case B). -/
theorem haltOp_haltBugSafe {s : State} (hm : s.mode = .running) (hp : s.imePending = false) (hb : s.haltBug = false) :
    (haltOp s).haltBugSafe := by
  unfold haltOp
  split
  · exact State.haltBugSafe_of_noBug hb
  · split
    case isTrue => exact State.haltBugSafe_of_noBug hb
    case isFalse hime => exact fun _ => ⟨hm, Bool.eq_false_iff.2 hime, hp⟩

/-- Behind an instruction that runs with no `EI` waiting, an armed halt bug is one `HALT` has just armed. -/
theorem Effect.haltBugSafe {s t : State} {i : Instr} (h : Effect s i t) (hm : s.mode = .running)
    (hp : s.imePending = false) : t.haltBugSafe := by
  cases h with
  | keeps n hk => exact State.haltBugSafe_of_noBug (hk.haltBug.trans (s.fetched_haltBug n))
  | halt => exact haltOp_haltBugSafe (by simpa using hm) (by simpa using hp) (s.fetched_haltBug 0)
  | stop pad => exact State.haltBugSafe_of_noBug (s.fetched_haltBug 1)
  | di => exact State.haltBugSafe_of_noBug (s.fetched_haltBug 0)
  | ei => exact State.haltBugSafe_of_noBug (s.fetched_haltBug 0)
  | reti => exact State.haltBugSafe_of_noBug (s.fetched_haltBug 0)

theorem step_haltBugSafe {s t : State} (hs : s.haltBugSafe) (h : step s = .next t) : t.haltBugSafe := by
  rcases step_next_cases h with rfl | ⟨i, he⟩
  · exact hs
  · exact he.haltBugSafe (State.ready_mode _) (State.ready_imePending _)

/-- Settles O48: flags and memory are kept by every effect; an idle step keeps the halt bug as it was, and behind any other
step an armed one is one its `HALT` armed in the ready state. -/
theorem stepKeepsTheInvariant : Obligations.StepKeepsTheInvariant := by
  unfold Obligations.StepKeepsTheInvariant
  rintro s t ⟨hflags, hbug, hmem⟩ h
  exact ⟨(step_preserves h).flags hflags, step_haltBugSafe hbug h, (step_preserves h).memWf hmem⟩

/-- Settles O50, by induction on the run. -/
theorem reachableStatesKeepTheReadOnlyArrays : Obligations.ReachableStatesKeepTheReadOnlyArrays := by
  unfold Obligations.ReachableStatesKeepTheReadOnlyArrays
  intro s t hrun
  induction hrun with
  | refl => exact ⟨rfl, rfl, id, id⟩
  | tail _ hstep ih =>
    obtain ⟨hrom, hboot, hoff, hinv⟩ := ih
    have hkeep := step_preserves hstep
    exact ⟨hkeep.rom.trans hrom, hkeep.boot.trans hboot,
      fun h => Bool.eq_false_iff.2 fun hon => Bool.eq_false_iff.1 (hoff h) (hkeep.overlay hon),
      fun h => stepKeepsTheInvariant _ _ (hinv h) hstep⟩

end Sys2Proof.Machine
end

section
/-! SUPPORT. Construction (spec/10_state.md R38, spec/48_host_interface.md R370): what the initial arrays read, and O10, O11
and O49. -/

namespace Sys2Proof.Machine

/-! ## The initial arrays -/

/-- R370: an image, cut to the array's size, reads as its bytes and then as the padding. -/
theorem get_ofBytes_take {dflt : Byte} {size i : Nat} (hi : i < size) (image : List Byte) :
    Cells.get dflt (Cells.ofBytes dflt 0 (image.take size)) i = image.getD i dflt := by
  rw [Cells.get_ofBytes (Nat.zero_le i), Nat.sub_zero, List.getD_eq_getElem?_getD, List.getD_eq_getElem?_getD,
    List.getElem?_take_of_lt hi]

/-- R38: a filled array reads `RAM_INIT` everywhere. -/
theorem get_filled {r : Region} {i : Nat} (hi : i < r.size) (p : Params) :
    Cells.get r.dflt (filled p r) i = p.ramInit := by
  rw [filled, Cells.get_ofBytes (Nat.zero_le i), Nat.sub_zero, List.getD_replicate _ hi]

theorem wfFrom_filled (p : Params) (r : Region) : Cells.wfFrom r.dflt r.size 0 (filled p r) = true :=
  Cells.wfFrom_ofBytes (by simp)

/-- R38: every byte of the arrays a program can write is `RAM_INIT`; `io` has no index 0x0F. -/
theorem get_initialMemory_ram (p : Params) (image : List Byte) (boot : Option (List Byte)) {r : Region} (hrom : r ≠ .rom)
    (hboot : r ≠ .boot) {i : Nat} (hi : i < r.size) (hhole : r = .io → i ≠ 0x0F) :
    (initialMemory p image boot).get r i = p.ramInit := by
  cases r with
  | rom => exact absurd rfl hrom
  | boot => exact absurd rfl hboot
  | io => exact (Cells.get_put_ne (wfFrom_filled p .io) (hhole rfl)).trans (get_filled hi p)
  | _ => exact get_filled hi p

/-! ## Construction -/

/-- The state construction builds, by the column of R38 the boot ROM selects. -/
def initialState (p : Params) (image : List Byte) : Option (List Byte) → State
  | none => stateWithoutBoot (initialMemory p image none)
  | some img => stateWithBoot (initialMemory p image (some img))

theorem construct_of_refused {p : Params} {image : List Byte} (h : romAccepted p image = false)
    (boot : Option (List Byte)) (video audio : Bool) :
    construct p image boot video audio = .error .invalidRomFormat := by
  unfold construct
  rw [h]
  rfl

theorem construct_of_accepted {p : Params} {image : List Byte} (h : romAccepted p image = true)
    (boot : Option (List Byte)) (video audio : Bool) :
    construct p image boot video audio = .ok (initialState p image boot) := by
  unfold construct
  rw [if_pos h]
  cases boot <;> rfl

theorem initialState_mem (p : Params) (image : List Byte) (boot : Option (List Byte)) :
    (initialState p image boot).mem = initialMemory p image boot := by
  cases boot <;> rfl

/-- Settles O10: the registers are those of the column, the arrays those of the images and of `RAM_INIT`. -/
theorem constructionGivesTheResetTable : Obligations.ConstructionGivesTheResetTable := by
  unfold Obligations.ConstructionGivesTheResetTable
  intro p image boot video audio
  refine ⟨fun h => construct_of_refused h .., fun h => ⟨initialState p image boot, construct_of_accepted h .., ?_⟩⟩
  rw [initialState_mem]
  refine ⟨fun hb => ?_, fun img hb => ?_, ?_, ?_, ?_, ?_, ?_, ?_, fun i hi => get_ofBytes_take hi image,
    fun i hi => get_ofBytes_take hi _,
    fun r hrom hboot i hi hhole => get_initialMemory_ram p image boot hrom hboot hi hhole⟩
  · subst hb
    exact ⟨rfl, rfl, rfl, rfl, rfl, rfl, rfl, rfl, rfl, rfl, rfl⟩
  · subst hb
    exact ⟨rfl, rfl, rfl, rfl, rfl, rfl, rfl, rfl, rfl, rfl, rfl⟩
  all_goals cases boot <;> rfl

/-! ## The reset state -/

/-- A writable array filled with the default of `RAM_INIT` lists no byte. -/
theorem filled_default {r : Region} (h : r.writable = true) : filled {} r = [] := by
  have hdflt : r.dflt = Config.ramInit := by cases r <;> first | rfl | cases h
  rw [filled, hdflt]
  exact Cells.ofBytes_replicate _ _ _

/-- An image of padding bytes is an empty array. -/
theorem initialMemory_erased (n : Nat) :
    initialMemory {} (List.replicate n Config.romPad) none = State.reset.mem := by
  have hrom : Cells.ofBytes (Region.dflt .rom) 0 ((List.replicate n Config.romPad).take (Region.size .rom)) = [] := by
    rw [List.take_replicate]
    exact Cells.ofBytes_replicate _ _ _
  unfold initialMemory
  rw [hrom, filled_default (r := .vram) rfl, filled_default (r := .wram) rfl, filled_default (r := .oam) rfl,
    filled_default (r := .io) rfl, filled_default (r := .hram) rfl]
  rfl

/-- Settles O11: the image is long enough, no checksum is enforced, and every array is empty. -/
theorem resetStateIsTheConstructionFromAnErasedImage : Obligations.ResetStateIsTheConstructionFromAnErasedImage := by
  unfold Obligations.ResetStateIsTheConstructionFromAnErasedImage
  have haccepted : romAccepted {} (List.replicate 0x150 0xFF) = true := by
    simp only [romAccepted, List.length_replicate]
    rfl
  rw [construct_of_accepted haccepted, initialState, show (0xFF : Byte) = Config.romPad from rfl, initialMemory_erased]
  rfl

/-- Settles O49: the three parts of the invariant, on the reset state's own values. -/
theorem resetSatisfiesTheInvariant : Obligations.ResetSatisfiesTheInvariant := by
  unfold Obligations.ResetSatisfiesTheInvariant
  exact ⟨rfl, fun h => absurd h (by decide), State.reset_memWf⟩

end Sys2Proof.Machine
end

section
/-! SUPPORT. The frames of loads, arithmetic, rotates and bit operations (spec/40_load8.md to spec/44_rotate_shift_bit.md),
and O44 and O45. -/

namespace Sys2Proof.Machine

/-! ## One register, one pair, the flags -/

/-- One register write. -/
theorem Frame.setR8 (s : State) {r : R8} (h : r ≠ .mHL) (v : Byte) : Frame [r] false 0 [] s (s.setR8 r v) := by
  have hregs : ∀ q, q ≠ .mHL → q ∉ [r] → (s.setR8 r v).getR8 q = s.getR8 q := fun _ hq hn =>
    State.getR8_setR8_ne s hq (List.ne_of_not_mem_cons hn) v
  cases r with
  | mHL => exact absurd rfl h
  | _ => exact .of_noStore hregs (fun _ => rfl) (flagsKept_of_eq rfl) (fun _ => rfl) rfl rfl rfl rfl rfl

/-- The accumulator, written as a field. -/
theorem Frame.setA (s : State) (v : Byte) : Frame [.A] false 0 [] s { s with a := v } :=
  Frame.setR8 s (r := .A) (by decide) v

/-- The registers of R104 a pair is made of (R105); `SP` is none of them. -/
def pairRegisters : R16 → List R8
  | .BC => [.B, .C]
  | .DE => [.D, .E]
  | .HL => [.H, .L]
  | .SP => []

/-- One pair write is two register writes, or one of `SP` (R105). -/
theorem Frame.setR16 (s : State) (p : R16) (w : Word) :
    Frame (pairRegisters p) (decide (p = .SP)) 0 [] s (s.setR16 p w) := by
  cases p with
  | BC => exact (Frame.setR8 s (r := .B) (by decide) (hi w)).trans id (.setR8 _ (r := .C) (by decide) (lo w))
  | DE => exact (Frame.setR8 s (r := .D) (by decide) (hi w)).trans id (.setR8 _ (r := .E) (by decide) (lo w))
  | HL => exact (Frame.setR8 s (r := .H) (by decide) (hi w)).trans id (.setR8 _ (r := .L) (by decide) (lo w))
  | SP => exact .setSP s w

theorem Frame.setHL (s : State) (w : Word) : Frame [.H, .L] false 0 [] s (s.setHL w) := Frame.setR16 s .HL w

/-- Packed flags keep every flag that is not named and was packed as it stood. -/
theorem flagsKept_packF {f v : Byte} {z n h c : Bool} (hz : f.getLsbD 7 = true ∨ z = v.getLsbD 7)
    (hn : f.getLsbD 6 = true ∨ n = v.getLsbD 6) (hh : f.getLsbD 5 = true ∨ h = v.getLsbD 5)
    (hc : f.getLsbD 4 = true ∨ c = v.getLsbD 4) : (packF z n h c ^^^ v) &&& (0xF0 &&& ~~~f) = 0 := by
  refine BitVec.eq_of_getLsbD_eq fun i hi => ?_
  simp only [BitVec.getLsbD_and, BitVec.getLsbD_xor, BitVec.getLsbD_not, hi, decide_true, Bool.true_and]
  have hcases : i < 4 ∨ i = 4 ∨ i = 5 ∨ i = 6 ∨ i = 7 := by omega
  rcases hcases with hlow | rfl | rfl | rfl | rfl
  · have hmask : (0xF0 : Byte).getLsbD i = false := by interval_cases i <;> rfl
    rw [hmask, Bool.false_and, Bool.and_false]
    exact BitVec.getLsbD_zero.symm
  · rw [packF_cf]; rcases hc with hc | rfl <;> simp [*]
  · rw [packF_hf]; rcases hh with hh | rfl <;> simp [*]
  · rw [packF_nf]; rcases hn with hn | rfl <;> simp [*]
  · rw [packF_zf]; rcases hz with hz | rfl <;> simp [*]

section
variable {regs : List R8} {m : Bool} {g : Byte} {st : List (Word × Byte)} {s t : State} (h : Frame regs m g st s t)
include h

/-- All four flags written last: the flags kept are those not named, and each of those is written as it stood before. -/
theorem Frame.setFlags {f : Byte} {z n hc c : Bool} (hf : f ≠ 0) (hz : f.getLsbD 7 = true ∨ z = s.zf)
    (hn : f.getLsbD 6 = true ∨ n = s.nf) (hh : f.getLsbD 5 = true ∨ hc = s.hf) (hcf : f.getLsbD 4 = true ∨ c = s.cf) :
    Frame regs m f st s (t.setFlags z n hc c) where
  registers := fun r hr hnot => by
    rw [← h.registers r hr hnot]
    cases r <;> rfl
  stackPointer := h.stackPointer
  flagsKept := flagsKept_packF hz hn hh hcf
  statusKept := fun hzero => absurd hzero hf
  bytes := fun a ha => (State.setFlags_read ..).trans (h.bytes a ha)
  cartridge := h.cartridge
  bootRom := h.bootRom
  requests := h.requests
  enables := h.enables
  overlay := h.overlay
  inputs := h.inputs

/-- All four flags are named. -/
theorem Frame.setAllFlags (z n hc c : Bool) : Frame regs m 0xF0 st s (t.setFlags z n hc c) :=
  h.setFlags (by decide) (.inl rfl) (.inl rfl) (.inl rfl) (.inl rfl)

/-- Z, N and H are named; the carry flag is written as it stood. -/
theorem Frame.setFlagsKeepC (z n hc : Bool) : Frame regs m 0xE0 st s (t.setFlags z n hc s.cf) :=
  h.setFlags (by decide) (.inl rfl) (.inl rfl) (.inl rfl) (.inr rfl)

/-- N, H and C are named; the zero flag is written as it stood. -/
theorem Frame.setFlagsKeepZ (n hc c : Bool) : Frame regs m 0x70 st s (t.setFlags s.zf n hc c) :=
  h.setFlags (by decide) (.inr rfl) (.inl rfl) (.inl rfl) (.inl rfl)

end

/-! ## Loads -/

theorem ldR8_frame {d : R8} (hd : d ≠ .mHL) (r : R8) (s : State) : Frame [d] false 0 [] s (ldR8 d r s) :=
  Frame.setR8 s hd _

theorem ldImm_frame {d : R8} (hd : d ≠ .mHL) (n : Byte) (s : State) : Frame [d] false 0 [] s (ldImm d n s) :=
  Frame.setR8 s hd n

theorem loadA_frame (addr : Word) (s : State) : Frame [.A] false 0 [] s (loadA addr s) := Frame.setA s _

/-- Using a pair as an address changes `HL` where it steps it (R107). -/
theorem memStep_frame (s : State) (p : R16Mem) :
    Frame (if p = .BC ∨ p = .DE then [] else [.H, .L]) false 0 [] s (s.memStep p) := by
  cases p with
  | BC | DE => exact Frame.refl s
  | HLi | HLd => exact Frame.setHL s _

theorem loadMem_frame (p : R16Mem) (s : State) :
    Frame (if p = .BC ∨ p = .DE then [.A] else [.A, .H, .L]) false 0 [] s (loadMem p s) := by
  have hframe := (loadA_frame (s.memAddr p) s).trans id (memStep_frame _ p)
  cases p <;> exact hframe

theorem ldSPHL_frame (s : State) : Frame [] true 0 [] s (ldSPHL s) := Frame.setSP s _

/-! ## Arithmetic and logic -/

theorem aluOp_frame (op : AluOp) (v : Byte) (s : State) :
    Frame (if op = .cp then [] else [.A]) false 0xF0 [] s (aluOp op v s) := by
  cases op with
  | cp => exact (Frame.refl s).setAllFlags _ _ _ _
  | _ => exact (Frame.setA s _).setAllFlags _ _ _ _

theorem incOp_frame {d : R8} (hd : d ≠ .mHL) (s : State) : Frame [d] false 0xE0 [] s (incOp d s) :=
  (Frame.setR8 s hd _).setFlagsKeepC _ _ _

theorem decOp_frame {d : R8} (hd : d ≠ .mHL) (s : State) : Frame [d] false 0xE0 [] s (decOp d s) :=
  (Frame.setR8 s hd _).setFlagsKeepC _ _ _

/-- R203: `N` selects the branch, and each branch writes it back as it was. -/
theorem daaOp_frame (s : State) : Frame [.A] false 0xB0 [] s (daaOp s) := by
  unfold daaOp
  split
  case isTrue hn => exact (Frame.setA s _).setFlags (by decide) (.inl rfl) (.inr hn.symm) (.inl rfl) (.inl rfl)
  case isFalse hn =>
    exact (Frame.setA s _).setFlags (by decide) (.inl rfl) (.inr (Bool.eq_false_iff.2 hn).symm) (.inl rfl) (.inl rfl)

theorem cplOp_frame (s : State) : Frame [.A] false 0x60 [] s (cplOp s) :=
  (Frame.setA s _).setFlags (by decide) (.inr rfl) (.inl rfl) (.inl rfl) (.inr rfl)

theorem scfOp_frame (s : State) : Frame [] false 0x70 [] s (scfOp s) := (Frame.refl s).setFlagsKeepZ _ _ _
theorem ccfOp_frame (s : State) : Frame [] false 0x70 [] s (ccfOp s) := (Frame.refl s).setFlagsKeepZ _ _ _

theorem addHL_frame (p : R16) (s : State) : Frame [.H, .L] false 0x70 [] s (addHL p s) :=
  (Frame.setHL s _).setFlagsKeepZ _ _ _

theorem addSP_frame (e : Byte) (s : State) : Frame [] true 0xF0 [] s (addSP e s) :=
  (Frame.setSP s _).setAllFlags _ _ _ _

theorem ldHLSP_frame (e : Byte) (s : State) : Frame [.H, .L] false 0xF0 [] s (ldHLSP e s) :=
  (Frame.setHL s _).setAllFlags _ _ _ _

/-! ## Rotates, shifts, bits -/

theorem rotA_frame (op : RotOp) (s : State) : Frame [.A] false 0xF0 [] s (rotA op s) :=
  (Frame.setA s _).setAllFlags _ _ _ _

theorem rotOp_frame (op : RotOp) {o : R8} (ho : o ≠ .mHL) (s : State) : Frame [o] false 0xF0 [] s (rotOp op o s) :=
  (Frame.setR8 s ho _).setAllFlags _ _ _ _

theorem bitOp_frame (b : Nat) (o : R8) (s : State) : Frame [] false 0xE0 [] s (bitOp b o s) :=
  (Frame.refl s).setFlagsKeepC _ _ _

theorem resOp_frame (b : Nat) {o : R8} (ho : o ≠ .mHL) (s : State) : Frame [o] false 0 [] s (resOp b o s) :=
  Frame.setR8 s ho _

theorem setOp_frame (b : Nat) {o : R8} (ho : o ≠ .mHL) (s : State) : Frame [o] false 0 [] s (setOp b o s) :=
  Frame.setR8 s ho _

/-! ## O44 -/

/-- The frame and the control bits of an instruction are those of the operation it completes with. -/
theorem frame_of_complete {regs : List R8} {m : Bool} {f : Byte} {st : List (Word × Byte)} {n : Nat}
    {operation : State → State} {s t : State} (h : complete (n + 1) operation s = .next t)
    (hf : Frame regs m f st (s.fetched (n + 1)) (operation (s.fetched (n + 1))))
    (hk : Keeps (s.fetched (n + 1)) (operation (s.fetched (n + 1)))) : Frame regs m f st s t ∧ SameControl s t :=
  ⟨.of_complete h hf, .of_complete h hk⟩

/-- The same for an operation whose frame holds in every state. -/
theorem frame_of_exec {regs : List R8} {m : Bool} {f : Byte} {st : List (Word × Byte)} {n : Nat} {i : Instr}
    {operation : State → State} {s t : State} (hexec : exec i s = complete (n + 1) operation s)
    (hf : ∀ u, Frame regs m f st u (operation u)) (hk : ∀ u, Keeps u (operation u)) (h : exec i s = .next t) :
    Frame regs m f st s t ∧ SameControl s t :=
  frame_of_complete (hexec ▸ h) (hf _) (hk _)

/-- Settles O44: each form completes with an operation whose frame and control bits the lemmas above give. -/
theorem registerFormsChangeOnlyTheirDestination : Obligations.RegisterFormsChangeOnlyTheirDestination := by
  unfold Obligations.RegisterFormsChangeOnlyTheirDestination
  intro s t
  refine ⟨fun d r hd => ?ldR8, fun d n hd => ?ldImm, fun p => ?loadMem, fun nn n h => ?loadA, fun p nn h => ?pair,
    ?ldSPHL, fun op r n h => ?alu, fun d hd h => ?incDec, ?daa, ?cpl, fun h => ?carry, fun h => ?rotA, fun p => ?addHL,
    fun e => ?addSP, fun e => ?ldHLSP, fun op o ho => ?rot, fun b o => ?bit, fun b o ho h => ?resSet⟩
  case ldR8 => exact frame_of_exec (exec_ldR8R8 (fun hboth => hd hboth.1) s) (ldR8_frame hd r) (ldR8_keeps d r)
  case ldImm => exact frame_of_exec (exec_ldR8Imm d n s) (ldImm_frame hd n) (ldImm_keeps d n)
  case loadMem => exact frame_of_exec (exec_loadAMem p s) (loadMem_frame p) (loadMem_keeps p)
  case loadA =>
    rcases h with h | h | h
    · exact frame_of_exec rfl (loadA_frame nn) (loadA_keeps nn) h
    · exact frame_of_exec rfl (fun u => loadA_frame (highPage u.c) u) (fun u => loadA_keeps (highPage u.c) u) h
    · exact frame_of_exec rfl (loadA_frame (highPage n)) (loadA_keeps (highPage n)) h
  case pair =>
    have hpair : Frame (pairRegisters p) (decide (p = .SP)) 0 [] s t ∧ SameControl s t := by
      rcases h with h | h | h
      · exact frame_of_exec (exec_ldR16Imm p nn s) (fun u => Frame.setR16 u p nn) (ldPair_keeps p nn) h
      · exact frame_of_exec (exec_incR16 p s) (fun u => Frame.setR16 u p _) (incPair_keeps p) h
      · exact frame_of_exec (exec_decR16 p s) (fun u => Frame.setR16 u p _) (decPair_keeps p) h
    cases p <;> exact hpair
  case ldSPHL => exact frame_of_exec rfl ldSPHL_frame ldSPHL_keeps
  case alu =>
    rcases h with h | h
    · exact frame_of_exec (exec_aluR8 op r s) (fun u => aluOp_frame op (u.getR8 r) u) (aluReg_keeps op r) h
    · exact frame_of_exec (exec_aluImm op n s) (aluOp_frame op n) (aluOp_keeps op n) h
  case incDec =>
    rcases h with h | h
    · exact frame_of_exec (exec_incR8 d s) (incOp_frame hd) (incOp_keeps d) h
    · exact frame_of_exec (exec_decR8 d s) (decOp_frame hd) (decOp_keeps d) h
  case daa => exact frame_of_exec rfl daaOp_frame daaOp_keeps
  case cpl => exact frame_of_exec rfl cplOp_frame cplOp_keeps
  case carry =>
    rcases h with h | h
    · exact frame_of_exec rfl scfOp_frame scfOp_keeps h
    · exact frame_of_exec rfl ccfOp_frame ccfOp_keeps h
  case rotA =>
    rcases h with h | h | h | h
    · exact frame_of_exec rfl (rotA_frame .rlc) (rotA_keeps .rlc) h
    · exact frame_of_exec rfl (rotA_frame .rrc) (rotA_keeps .rrc) h
    · exact frame_of_exec rfl (rotA_frame .rl) (rotA_keeps .rl) h
    · exact frame_of_exec rfl (rotA_frame .rr) (rotA_keeps .rr) h
  case addHL => exact frame_of_exec (exec_addHlR16 p s) (addHL_frame p) (addHL_keeps p)
  case addSP => exact frame_of_exec rfl (addSP_frame e) (addSP_keeps e)
  case ldHLSP => exact frame_of_exec rfl (ldHLSP_frame e) (ldHLSP_keeps e)
  case rot => exact frame_of_exec (exec_rotR8 op o s) (rotOp_frame op ho) (rotOp_keeps op o)
  case bit => exact frame_of_exec (exec_bitR8 b o s) (bitOp_frame _ o) (bitOp_keeps _ o)
  case resSet =>
    rcases h with h | h
    · exact frame_of_exec (exec_resR8 b o s) (resOp_frame _ ho) (resOp_keeps _ o) h
    · exact frame_of_exec (exec_setR8 b o s) (setOp_frame _ ho) (setOp_keeps _ o) h

/-! ## The forms that store one byte -/

theorem storeMem_frame {s : State} (hm : s.memWf) (p : R16Mem) :
    Frame (if p = .BC ∨ p = .DE then [] else [.H, .L]) false 0 [(s.memAddr p, s.a)] s (storeMem p s) :=
  (Frame.write hm (s.memAddr p) s.a).before (storeA_keeps _ s).overlay (memStep_frame _ p)

/-- A read-modify-write of the byte at `HL`, and all four flags. -/
theorem rotOp_mHL_frame {s : State} (hm : s.memWf) (op : RotOp) :
    Frame [] false 0xF0 [(s.hl, rotValue op (s.read s.hl) s.cf)] s (rotOp op .mHL s) :=
  (Frame.write hm s.hl _).setAllFlags _ _ _ _

theorem incOp_mHL_frame {s : State} (hm : s.memWf) :
    Frame [] false 0xE0 [(s.hl, s.read s.hl + 1)] s (incOp .mHL s) :=
  (Frame.write hm s.hl _).setFlagsKeepC _ _ _

theorem decOp_mHL_frame {s : State} (hm : s.memWf) :
    Frame [] false 0xE0 [(s.hl, s.read s.hl - 1)] s (decOp .mHL s) :=
  (Frame.write hm s.hl _).setFlagsKeepC _ _ _

/-! ## O45 -/

/-- The frame of an operation in the state behind the fetch is that of the instruction, whose stores are given in the
state before it. -/
theorem frame_of_exec_storing {regs : List R8} {m : Bool} {f : Byte} {st : State → List (Word × Byte)} {n : Nat}
    {i : Instr} {operation : State → State} {s t : State} (hm : s.memWf)
    (hexec : exec i s = complete (n + 1) operation s) (hst : st (s.fetched (n + 1)) = st s)
    (hf : ∀ u : State, u.memWf → Frame regs m f (st u) u (operation u)) (hk : ∀ u, Keeps u (operation u))
    (h : exec i s = .next t) : Frame regs m f (st s) s t ∧ SameControl s t :=
  frame_of_complete (hexec ▸ h) (hst ▸ hf _ (State.fetched_memWf hm _)) (hk _)

/-- Settles O45: each form completes with one store, after which only `HL` or the flags named are written. -/
theorem storingFormsChangeOnlyTheStoredByte : Obligations.StoringFormsChangeOnlyTheStoredByte := by
  unfold Obligations.StoringFormsChangeOnlyTheStoredByte
  intro s t hm
  refine ⟨fun r hr => ?ldR8, fun n => ?ldImm, fun p => ?storeMem, fun nn => ?storeA, ?ldhC, fun n => ?ldhN, ?inc, ?dec,
    fun op => ?rot, fun b hb => ?res, fun b hb => ?set⟩
  case ldR8 =>
    exact frame_of_exec_storing (st := fun u => [(u.hl, u.getR8 r)]) hm (exec_ldR8R8 (fun hboth => hr hboth.2) s)
      (by simp) (fun u hu => Frame.write hu u.hl (u.getR8 r)) (ldR8_keeps .mHL r)
  case ldImm =>
    exact frame_of_exec_storing (st := fun u => [(u.hl, n)]) hm (exec_ldR8Imm .mHL n s)
      (by simp) (fun u hu => Frame.write hu u.hl n) (ldImm_keeps .mHL n)
  case storeMem =>
    exact frame_of_exec_storing (st := fun u => [(u.memAddr p, u.a)]) hm (exec_storeAMem p s)
      (by simp) (fun u hu => storeMem_frame hu p) (storeMem_keeps p)
  case storeA =>
    exact frame_of_exec_storing (st := fun u => [(nn, u.a)]) hm rfl
      (by simp) (fun u hu => Frame.write hu nn u.a) (storeA_keeps nn)
  case ldhC =>
    exact frame_of_exec_storing (st := fun u => [(highPage u.c, u.a)])
      (operation := fun u => storeA (highPage u.c) u) hm rfl
      (by simp) (fun u hu => Frame.write hu (highPage u.c) u.a) (fun u => storeA_keeps (highPage u.c) u)
  case ldhN =>
    exact frame_of_exec_storing (st := fun u => [(highPage n, u.a)]) hm rfl
      (by simp) (fun u hu => Frame.write hu (highPage n) u.a) (storeA_keeps (highPage n))
  case inc =>
    exact frame_of_exec_storing (st := fun u => [(u.hl, u.read u.hl + 1)]) hm rfl
      (by simp) (fun u hu => incOp_mHL_frame hu) (incOp_keeps .mHL)
  case dec =>
    exact frame_of_exec_storing (st := fun u => [(u.hl, u.read u.hl - 1)]) hm rfl
      (by simp) (fun u hu => decOp_mHL_frame hu) (decOp_keeps .mHL)
  case rot =>
    exact frame_of_exec_storing (st := fun u => [(u.hl, rotValue op (u.read u.hl) u.cf)]) hm (exec_rotR8 op .mHL s)
      (by simp) (fun u hu => rotOp_mHL_frame hu op) (rotOp_keeps op .mHL)
  case res =>
    have hexec := exec_resR8 b .mHL s
    rw [Nat.min_eq_left (by omega)] at hexec
    exact frame_of_exec_storing (st := fun u => [(u.hl, u.read u.hl &&& ~~~((1 : Byte) <<< b))]) hm hexec
      (by simp) (fun u hu => Frame.write hu u.hl _) (resOp_keeps b .mHL)
  case set =>
    have hexec := exec_setR8 b .mHL s
    rw [Nat.min_eq_left (by omega)] at hexec
    exact frame_of_exec_storing (st := fun u => [(u.hl, u.read u.hl ||| ((1 : Byte) <<< b))]) hm hexec
      (by simp) (fun u hu => Frame.write hu u.hl _) (setOp_keeps b .mHL)

end Sys2Proof.Machine
end

section
/-! SUPPORT. The bus, row by row (spec/20_memory.md R60 to R77): what a read and a write do at each kind of owner, what reads
back, and O5, O6, O7, O8 and O9. -/

namespace Sys2Proof.Machine

/-! ## The rows of R63 not yet named -/

/-- R63, R72: I/O storage is the high page below 0xFF80 without the two registers in it. -/
theorem ownerOf_io (bm : Bool) {a : Word} (h : 0xFF00 ≤ a.toNat) (h' : a.toNat < 0xFF80) (hif : a ≠ 0xFF0F)
    (hboot : a ≠ 0xFF50) : ownerOf bm a.toNat = .cell .io (a.toNat - 0xFF00) := by
  have hif' : a.toNat ≠ 0xFF0F := fun heq => hif (BitVec.eq_of_toNat_eq heq)
  have hboot' : a.toNat ≠ 0xFF50 := fun heq => hboot (BitVec.eq_of_toNat_eq heq)
  rcases Nat.lt_or_gt_of_ne hif' with hlow | hmid
  · exact ownerOf_ioLow bm h hlow
  · rcases Nat.lt_or_gt_of_ne hboot' with hmid' | hhigh
    · exact ownerOf_ioMid bm hmid hmid'
    · exact ownerOf_ioHigh bm hhigh h'

/-- R65, R66: the arrays that discard a write lie in the ROM window. -/
theorem ownerOf_cell_writable {bm : Bool} {n : Nat} {r : Region} {i : Nat} (hn : 0x8000 ≤ n)
    (h : ownerOf bm n = .cell r i) : r.writable = true := by
  revert h
  induction n using address_rows with
  | overlay n h1 => omega
  | rom n h1 h2 => omega
  | _ =>
    simp (disch := omega) only [ownerOf, if_neg, if_pos]
    rintro ⟨⟩ <;> rfl

/-- R67, R71, R77: the two ranges without an owner. -/
theorem ownerOf_eq_unmapped {bm : Bool} {n : Nat} :
    ownerOf bm n = .unmapped ↔ (0xA000 ≤ n ∧ n < 0xC000) ∨ (0xFEA0 ≤ n ∧ n < 0xFF00) := by
  induction n using address_rows with
  | overlay n h1 => rw [ownerOf_overlay bm h1]; cases bm <;> simp <;> omega
  | cartRam n h1 h2 => simp [ownerOf_cartRam bm h1 h2, h1, h2]
  | gap n h1 h2 => simp [ownerOf_gap bm h1 h2, h1, h2]
  | _ =>
    simp (disch := omega) only [ownerOf, if_neg, if_pos, reduceCtorEq, false_iff]
    omega

/-! ## A read and a write, by the owner of the address -/

section
variable {s : State} {a : Word} {r : Region} {i : Nat}

theorem State.bus_of_ram (h : s.owner a = .cell r i) (hw : r.writable = true) (v : Byte) :
    s.read a = s.mem.get r i ∧ s.write a v = { s with mem := s.mem.put r i v } :=
  ⟨State.read_of_cell h, State.write_of_cell h hw v⟩

theorem State.bus_of_readOnly (h : s.owner a = .cell r i) (hw : r.writable = false) (v : Byte) :
    s.read a = s.mem.get r i ∧ s.write a v = s := by
  refine ⟨State.read_of_cell h, ?_⟩
  simp [State.write, h, hw]

theorem State.bus_of_unmapped (h : s.owner a = .unmapped) (v : Byte) : s.read a = 0xFF ∧ s.write a v = s := by
  simp only [State.read, State.write, h, Config.openBus, and_self]

theorem State.bus_of_ifReg (h : s.owner a = .ifReg) (v : Byte) :
    s.read a = 0xE0 ||| s.iflag.setWidth 8 ∧ s.write a v = { s with iflag := v.setWidth 5 } := by
  simp only [State.read, State.write, h, and_self]

theorem State.bus_of_bootReg (h : s.owner a = .bootReg) (v : Byte) :
    s.read a = s.mem.get .io 0x50 ∧
      s.write a v = { s with
        mem := s.mem.put .io 0x50 v, bootMapped := if v.getLsbD 0 then false else s.bootMapped } := by
  have hoverlay : (s.bootMapped && !v.getLsbD 0) = if v.getLsbD 0 then false else s.bootMapped := by
    cases v.getLsbD 0 <;> simp
  simp only [State.read, State.write, h, hoverlay, and_self]

theorem State.bus_of_ieReg (h : s.owner a = .ieReg) (v : Byte) :
    s.read a = s.ie ∧ s.write a v = { s with ie := v } := by
  simp only [State.read, State.write, h, and_self]

end

/-- Settles O5: the row of R63 names the owner, and the owner says what the read and the write are. -/
theorem addressMapOfTheBus : Obligations.AddressMapOfTheBus := by
  unfold Obligations.AddressMapOfTheBus
  intro s a v
  refine ⟨fun h hon => ?overlay, fun h hoff => ?cartridge, fun h h' => ?rom, fun h h' => ?vram, fun h h' => ?cartRam,
    fun h h' => ?wram, fun h h' => ?echo, fun h h' => ?oam, fun h h' => ?gap, fun h h' hif hboot => ?io, fun h => ?ifReg,
    fun h => ?bootReg, fun h h' => ?hram, fun h => ?ieReg⟩
  case overlay => exact State.bus_of_readOnly (by rw [State.owner, ownerOf_overlay _ h, if_pos hon]) rfl v
  case cartridge => exact State.bus_of_readOnly (by rw [State.owner, ownerOf_overlay _ h, hoff]; rfl) rfl v
  case rom => exact State.bus_of_readOnly (ownerOf_rom _ h h') rfl v
  case vram => exact State.bus_of_ram (ownerOf_vram _ h h') rfl v
  case cartRam => exact State.bus_of_unmapped (ownerOf_cartRam _ h h') v
  case wram => exact State.bus_of_ram (ownerOf_wram _ h h') rfl v
  case echo => exact State.bus_of_ram (ownerOf_echo _ h h') rfl v
  case oam => exact State.bus_of_ram (ownerOf_oam _ h h') rfl v
  case gap => exact State.bus_of_unmapped (ownerOf_gap _ h h') v
  case io => exact State.bus_of_ram (ownerOf_io _ h h' hif hboot) rfl v
  case ifReg => exact State.bus_of_ifReg (ownerOf_ifReg _ (by rw [h]; rfl)) v
  case bootReg => exact State.bus_of_bootReg (ownerOf_bootReg _ (by rw [h]; rfl)) v
  case hram => exact State.bus_of_ram (ownerOf_hram _ h h') rfl v
  case ieReg => exact State.bus_of_ieReg (ownerOf_ieReg _ (by rw [h]; decide)) v

/-- Settles O8: the two ranges are the addresses without an owner. -/
theorem openBusReadsTheSentinel : Obligations.OpenBusReadsTheSentinel := by
  unfold Obligations.OpenBusReadsTheSentinel
  intro s a
  refine ⟨ownerOf_eq_unmapped.symm, fun hrange => ?_⟩
  have hown : s.owner a = .unmapped := ownerOf_eq_unmapped.2 hrange
  exact ⟨(State.bus_of_unmapped hown 0).1, fun v => (State.bus_of_unmapped hown v).2⟩

/-! ## What reads back -/

/-- R69: two addresses of one byte read alike in every state. -/
theorem State.read_of_homeAddr_eq (s : State) {a b : Word} (h : homeAddr b = homeAddr a) : s.read b = s.read a := by
  have hown : s.owner b = s.owner a := by
    rw [State.owner, State.owner, ← ownerOf_homeAddr _ b, h, ownerOf_homeAddr]
  simp only [State.read, hown]

/-- R74: the boot-disable register keeps all eight bits of the byte stored. -/
theorem State.read_write_bootReg {s : State} (hm : s.memWf) {a : Word} (h : s.owner a = .bootReg) (v : Byte) :
    (s.write a v).read a = v := by
  have hown : (s.write a v).owner a = .bootReg := ownerOf_eq_bootReg.2 (ownerOf_eq_bootReg.1 h)
  rw [(State.bus_of_bootReg hown v).1, (State.bus_of_bootReg h v).2, Memory.get_put_self hm]

/-- R76: `IE` keeps all eight bits. -/
theorem State.read_write_ieReg {s : State} {a : Word} (h : s.owner a = .ieReg) (v : Byte) : (s.write a v).read a = v := by
  have hown : (s.write a v).owner a = .ieReg := ownerOf_eq_ieReg.2 (ownerOf_eq_ieReg.1 h)
  rw [(State.bus_of_ieReg hown v).1, (State.bus_of_ieReg h v).2]

/-- Cut to five bits and widened again, a byte keeps its bits 4:0. -/
theorem setWidth_setWidth_five (v : Byte) : (v.setWidth 5).setWidth 8 = v &&& 0x1F := by
  refine BitVec.eq_of_toNat_eq ?_
  have hmask : v.toNat &&& 0x1F = v.toNat % 32 := Nat.and_two_pow_sub_one_eq_mod v.toNat 5
  rw [BitVec.toNat_and, show (0x1F : Byte).toNat = 0x1F from rfl, hmask]
  simp only [BitVec.toNat_setWidth]
  omega

/-- R73: `IF` keeps five bits, and reads ones above them. -/
theorem State.read_write_ifReg {s : State} {a : Word} (h : s.owner a = .ifReg) (v : Byte) :
    (s.write a v).read a = 0xE0 ||| (v &&& 0x1F) := by
  have hown : (s.write a v).owner a = .ifReg := ownerOf_eq_ifReg.2 (ownerOf_eq_ifReg.1 h)
  rw [(State.bus_of_ifReg hown v).1, (State.bus_of_ifReg h v).2, setWidth_setWidth_five]

/-- Above the ROM window, every byte stored at an owned address but `IF`'s reads back. -/
theorem State.read_write_self {s : State} (hm : s.memWf) {a : Word} (h : 0x8000 ≤ a.toNat) (hif : a ≠ 0xFF0F)
    (hmapped : s.owner a ≠ .unmapped) (v : Byte) : (s.write a v).read a = v := by
  cases hown : s.owner a with
  | cell r i => exact State.read_write_cell hm hown (ownerOf_cell_writable h hown) v
  | ifReg => exact absurd (BitVec.eq_of_toNat_eq (ownerOf_eq_ifReg.1 hown)) hif
  | bootReg => exact State.read_write_bootReg hm hown v
  | ieReg => exact State.read_write_ieReg hown v
  | unmapped => exact absurd hown hmapped

/-- Settles O6: `b` reads what `a` reads, and the byte stored at `a` reads back by the owner of `a`. -/
theorem storedByteReadsBack : Obligations.StoredByteReadsBack := by
  unfold Obligations.StoredByteReadsBack
  intro s a b v hm hrange hhome
  rw [State.read_of_homeAddr_eq _ hhome]
  refine ⟨fun hif => State.read_write_self hm (by omega) hif (fun hun => ?_) v,
    fun hif => State.read_write_ifReg (ownerOf_eq_ifReg.2 (by rw [hif]; rfl)) v⟩
  have hopen := ownerOf_eq_unmapped.1 hun
  omega

/-! ## What a store leaves alone -/

/-- Settles O7: the rule of a read behind a store it is not reached by (R62). -/
theorem storeLeavesOtherBytesAlone : Obligations.StoreLeavesOtherBytesAlone := by
  unfold Obligations.StoreLeavesOtherBytesAlone
  intro s a b v hm hreach
  exact State.read_write_of_not_reaches hm hreach

/-! ## The boot-disable register (R74) -/

/-- With the overlay off, the lowest 256 addresses read the cartridge (R65). -/
theorem State.read_cartridge {s : State} (hoff : s.bootMapped = false) {a : Word} (h : a.toNat < 0x0100) :
    s.read a = s.mem.get .rom a.toNat :=
  State.read_of_cell (by rw [State.owner, ownerOf_overlay _ h, hoff]; rfl)

/-- No store changes a byte of the ROM array. -/
theorem State.get_write_rom (s : State) (a : Word) (v : Byte) (i : Nat) :
    (s.write a v).mem.get .rom i = s.mem.get .rom i := by
  simp only [Memory.get, Memory.bank, State.write_rom]

/-- Settles O9: the store's equation gives the byte and the overlay; with the overlay off the ROM array, which no store
writes, is what the lowest addresses read. -/
theorem bootOverlayAndItsDisableRegister : Obligations.BootOverlayAndItsDisableRegister := by
  unfold Obligations.BootOverlayAndItsDisableRegister
  intro s v hm
  have hown : ∀ t : State, t.owner 0xFF50 = .bootReg := fun _ => ownerOf_eq_bootReg.2 rfl
  obtain ⟨hread, hwrite⟩ := State.bus_of_bootReg (hown s) v
  refine ⟨?_, State.read_write_bootReg hm (hown s) v, fun hv => ?_, fun hv => ?_, State.write_bootMapped_le s, hread⟩
  · rw [hwrite, Memory.get_put_self hm]
  · have hoff : (s.write 0xFF50 v).bootMapped = false := by
      rw [hwrite]
      exact if_pos hv
    exact ⟨hoff, fun a ha => (State.read_cartridge hoff ha).trans (State.get_write_rom s _ v _)⟩
  · exact State.write_bootMapped_of_not_unmapping fun hun => Bool.eq_false_iff.1 hv hun.2

end Sys2Proof.Machine
end

section
/-! SUPPORT. Every instruction completes (spec/60_exceptions.md R410, R430), and O47. -/

namespace Sys2Proof.Machine

/-- R410, R430: an instruction has no check that can fail; only the eleven illegal bytes answer no next state (R116). -/
theorem exec_next_of_legal {i : Instr} (h : i.isIllegalByte = false) (s : State) : ∃ t, exec i s = .next t := by
  cases i with
  | illegal_D3 | illegal_DB | illegal_DD | illegal_E3 | illegal_E4 | illegal_EB | illegal_EC | illegal_ED | illegal_F4
  | illegal_FC | illegal_FD => cases h
  | _ => exact ⟨_, rfl⟩

/-- No instruction takes the host's inputs off the queue. -/
theorem Effect.inputs {s t : State} {i : Instr} (h : Effect s i t) : t.inputs = s.inputs := by
  cases h with
  | keeps n hk => exact hk.inputs.trans (State.fetched_inputs _ s)
  | halt =>
    rw [haltOp_eq]
    exact State.fetched_inputs 1 s
  | stop pad => exact State.fetched_inputs 2 s
  | di | ei => exact State.fetched_inputs 1 s
  | reti => exact (ret_keeps _).inputs.trans (State.fetched_inputs 1 s)

/-- Settles O47: the instruction completes, and its next state is an effect of it. -/
theorem everyInstructionCompletesInEveryState : Obligations.EveryInstructionCompletesInEveryState := by
  unfold Obligations.EveryInstructionCompletesInEveryState
  intro i s hwf
  obtain ⟨t, ht⟩ := exec_next_of_legal hwf.1 s
  have heffect := effect_of_exec ht
  exact ⟨t, ht, heffect.preserves.rom, heffect.preserves.boot, heffect.inputs, heffect.preserves.overlay⟩

end Sys2Proof.Machine
end

section
/-! SUPPORT. The decoder against the encoder (spec/30_encoding.md R100 to R118): the two writings of the opcode map agree in
every row, and O1, O2, O3, O37 and O4. -/

namespace Sys2Proof.Machine

/-! ## An opcode byte is its three fields (R102) -/

/-- R102: the byte with the fields `x`, `y`, `z`. -/
def opcode (x y z : Nat) : Byte := BitVec.ofNat 8 (64 * x + 8 * y + z)

theorem fieldX_lt (op : Byte) : fieldX op < 4 := by
  have := op.isLt
  unfold fieldX
  omega

theorem fieldY_lt (op : Byte) : fieldY op < 8 := Nat.mod_lt _ (by decide)

theorem fieldZ_lt (op : Byte) : fieldZ op < 8 := Nat.mod_lt _ (by decide)

theorem opcode_fields (op : Byte) : opcode (fieldX op) (fieldY op) (fieldZ op) = op := by
  apply BitVec.eq_of_toNat_eq
  have := op.isLt
  simp only [opcode, fieldX, fieldY, fieldZ, BitVec.toNat_ofNat]
  omega

/-! ## The rows of the opcode map -/

/-- The encoder gives the instruction `i` the bytes it was decoded from: `op`, and as many of the two bytes of `nn` as the
length of `op` asks for (R114, R119); and `i` is not the row `prefix_CB` (R118). -/
structure IsRow (op : Byte) (nn : Word) (i : Instr) : Prop where
  bytes : encode i = op :: [lo nn, hi nn].take (lengthOfFirst op - 1)
  notPrefix : i.isPrefixRow = false

/-- R115: the second page, in each of its quadrants by the row of the operation and the column of the operand. -/
theorem decodeCb_row (op2 : Byte) : encode (decodeCb op2) = [0xCB, op2] ∧ (decodeCb op2).isPrefixRow = false := by
  have hx := fieldX_lt op2
  have hy := fieldY_lt op2
  have hz := fieldZ_lt op2
  conv => enter [1, 2]; rw [← opcode_fields op2]
  unfold decodeCb
  generalize fieldX op2 = x, fieldY op2 = y, fieldZ op2 = z at *
  interval_cases x <;> interval_cases y <;> interval_cases z <;> exact ⟨rfl, rfl⟩

/-- The quadrant `x = 0` (R113); a word operand is the two bytes joined. -/
theorem decodeX0_isRow {y z : Nat} (hy : y < 8) (hz : z < 8) (nn : Word) :
    IsRow (opcode 0 y z) nn (decodeX0 y z (lo nn) (hi nn)) := by
  simp only [decodeX0, join_hi_lo]
  interval_cases z <;> interval_cases y <;> exact ⟨rfl, rfl⟩

theorem ldR8R8_isRow {y z : Nat} (hy : y < 8) (hz : z < 8) (nn : Word) :
    IsRow (opcode 1 y z) nn (ldR8R8 (R8.ofIndex y) (R8.ofIndex z)) := by
  interval_cases y <;> interval_cases z <;> exact ⟨rfl, rfl⟩

theorem aluR8_isRow {y z : Nat} (hy : y < 8) (hz : z < 8) (nn : Word) :
    IsRow (opcode 2 y z) nn (aluR8 (AluOp.ofIndex y) (R8.ofIndex z)) := by
  interval_cases y <;> interval_cases z <;> exact ⟨rfl, rfl⟩

/-- R103, R118: the byte 0xCB selects the second page. -/
theorem prefixByte_isRow (nn : Word) : IsRow 0xCB nn (decodeCb (lo nn)) := by
  obtain ⟨hbytes, hprefix⟩ := decodeCb_row (lo nn)
  exact ⟨hbytes, hprefix⟩

/-- The quadrant `x = 3` (R113), with the row `y = 1` of its column `z = 3`, the byte 0xCB, apart. -/
theorem decodeX3_isRow {y z : Nat} (hy : y < 8) (hz : z < 8) (nn : Word) :
    IsRow (opcode 3 y z) nn (decodeX3 y z (lo nn) (hi nn)) := by
  simp only [decodeX3, join_hi_lo]
  rcases Nat.lt_trichotomy z 3 with hz3 | rfl | hz3
  · interval_cases z <;> interval_cases y <;> exact ⟨rfl, rfl⟩
  · rcases Nat.lt_trichotomy y 1 with hy1 | rfl | hy1
    · interval_cases y
      exact ⟨rfl, rfl⟩
    · exact prefixByte_isRow nn
    · interval_cases y <;> exact ⟨rfl, rfl⟩
  · interval_cases z <;> interval_cases y <;> exact ⟨rfl, rfl⟩

/-- R103, R114: the two writings of the opcode map agree for every opcode byte. -/
theorem decodeBytes_isRow (op : Byte) (nn : Word) : IsRow op nn (decodeBytes op (lo nn) (hi nn)) := by
  have hx := fieldX_lt op
  have hy := fieldY_lt op
  have hz := fieldZ_lt op
  conv => enter [1]; rw [← opcode_fields op]
  unfold decodeBytes
  generalize fieldX op = x at *
  interval_cases x
  · exact decodeX0_isRow hy hz nn
  · exact ldR8R8_isRow hy hz nn
  · exact aluR8_isRow hy hz nn
  · exact decodeX3_isRow hy hz nn

theorem decodeBytes_row (op b1 b2 : Byte) :
    encode (decodeBytes op b1 b2) = op :: [b1, b2].take (lengthOfFirst op - 1) ∧
      (decodeBytes op b1 b2).isPrefixRow = false := by
  obtain ⟨hbytes, hprefix⟩ := decodeBytes_isRow op (join b2 b1)
  rw [lo_join, hi_join] at hbytes hprefix
  exact ⟨hbytes, hprefix⟩

/-- R118: the row `prefix_CB` is never decoded. -/
theorem decodeBytes_isPrefixRow (op b1 b2 : Byte) : (decodeBytes op b1 b2).isPrefixRow = false :=
  (decodeBytes_row op b1 b2).2

/-! ## The decoder on a byte list -/

theorem lengthOfFirst_pos (op : Byte) : 0 < lengthOfFirst op := by
  unfold lengthOfFirst
  split_ifs <;> decide

theorem lengthOfFirst_le (op : Byte) : lengthOfFirst op ≤ 3 := by
  unfold lengthOfFirst
  split_ifs <;> decide

/-- The decoder reads an instruction exactly when there are as many bytes as the first one asks for (R119). -/
theorem decode_ok_iff {bs rest : List Byte} {i : Instr} :
    decode bs = .ok (i, rest) ↔ ∃ op l, bs = op :: l ∧ lengthOfFirst op ≤ l.length + 1 ∧
      decodeBytes op (l.getD 0 0) (l.getD 1 0) = i ∧ l.drop (lengthOfFirst op - 1) = rest := by
  cases bs with
  | nil => simp [decode]
  | cons op l =>
    by_cases hlen : lengthOfFirst op ≤ l.length + 1
    · simp [decode, hlen, Nat.not_lt.2 hlen]
    · simp [decode, hlen, Nat.not_le.1 hlen]

/-- The first bytes of a list, looked up one by one. -/
theorem take_getD_pair {l : List Byte} {n : Nat} (hn : n ≤ 2) (hl : n ≤ l.length) :
    [l.getD 0 0, l.getD 1 0].take n = l.take n := by
  match n, l with
  | 0, _ => rfl
  | 1, a :: l => rfl
  | 2, a :: b :: l => rfl

/-- Encoding what was decoded from the bytes `op :: l` gives the bytes that were read. -/
theorem encode_decodeBytes {op : Byte} {l : List Byte} (h : lengthOfFirst op ≤ l.length + 1) :
    encode (decodeBytes op (l.getD 0 0) (l.getD 1 0)) = op :: l.take (lengthOfFirst op - 1) := by
  obtain ⟨hbytes, -⟩ := decodeBytes_row op (l.getD 0 0) (l.getD 1 0)
  have hle := lengthOfFirst_le op
  rw [hbytes, take_getD_pair (by omega) (by omega)]

/-- R119: the first byte of an instruction tells its length. -/
theorem lengthOfFirst_of_encode {i : Instr} (h : i.isPrefixRow = false) {op : Byte} {l : List Byte}
    (he : encode i = op :: l) : lengthOfFirst op = l.length + 1 := by
  obtain ⟨hbytes, -⟩ := decodeBytes_row op (l.getD 0 0) (l.getD 1 0)
  rw [decodeBytes_of_encode h he, he] at hbytes
  have hlen := congrArg List.length hbytes
  have hpos := lengthOfFirst_pos op
  have hle := lengthOfFirst_le op
  simp only [List.length_cons, List.length_take, List.length_nil] at hlen
  omega

/-- Two instructions, neither `prefix_CB`, with the same bytes are the same. -/
theorem encode_injective {i j : Instr} (hi : i.isPrefixRow = false) (hj : j.isPrefixRow = false)
    (h : encode i = encode j) : i = j := by
  obtain ⟨op, l, he⟩ := List.exists_cons_of_ne_nil (encode_ne_nil i)
  rw [← decodeBytes_of_encode hi he, decodeBytes_of_encode hj (h ▸ he)]

/-- The bytes of an instruction decode to it, whatever stands behind them; the illegal bytes included (R116). -/
theorem decode_encode {i : Instr} (h : i.isPrefixRow = false) (rest : List Byte) :
    decode (encode i ++ rest) = .ok (i, rest) := by
  obtain ⟨op, l, he⟩ := List.exists_cons_of_ne_nil (encode_ne_nil i)
  have hlen := lengthOfFirst_of_encode h he
  have hread : lengthOfFirst op ≤ (l ++ rest).length + 1 := by
    rw [hlen, List.length_append]
    omega
  rw [he]
  refine decode_ok_iff.2 ⟨op, l ++ rest, rfl, hread, ?_, ?_⟩
  · apply encode_injective (decodeBytes_isPrefixRow _ _ _) h
    rw [encode_decodeBytes hread, he, hlen, Nat.add_sub_cancel, List.take_left]
  · rw [hlen, Nat.add_sub_cancel, List.drop_left]

theorem decode_of_encode_eq {i : Instr} (h : i.isPrefixRow = false) {bs : List Byte} (he : encode i = bs) :
    decode bs = .ok (i, []) := by
  rw [← decode_encode h, he, List.append_nil]

/-! ## O1 and O2 -/

/-- Settles O1: a well-formed instruction is not `prefix_CB`, so its bytes decode to it. -/
theorem decodeOfEncodeIsIdentity : Obligations.DecodeOfEncodeIsIdentity := by
  unfold Obligations.DecodeOfEncodeIsIdentity
  intro i rest hwf
  obtain ⟨-, hprefix⟩ := hwf
  exact decode_encode hprefix rest

/-- Settles O2: the encoding is the bytes taken, and the rest those dropped. -/
theorem encodeOfDecodeIsIdentity : Obligations.EncodeOfDecodeIsIdentity := by
  unfold Obligations.EncodeOfDecodeIsIdentity
  intro bs rest i h
  obtain ⟨op, l, rfl, hlen, rfl, rfl⟩ := decode_ok_iff.1 h
  refine ⟨?_, decodeBytes_isPrefixRow _ _ _⟩
  rw [encode_decodeBytes hlen, List.cons_append, List.take_append_drop]

/-! ## O3 -/

/-- R116: the bytes that select no instruction. -/
def illegalBytes : List Byte := [0xD3, 0xDB, 0xDD, 0xE3, 0xE4, 0xEB, 0xEC, 0xED, 0xF4, 0xFC, 0xFD]

/-- R116, R326: an illegal instruction is one of the eleven bytes, and faults with it. -/
theorem illegal_cases {i : Instr} (h : i.isIllegalByte = true) :
    ∃ op ∈ illegalBytes, encode i = [op] ∧ ∀ s : State, exec i s = illegal op s := by
  cases i with
  | illegal_D3 | illegal_DB | illegal_DD | illegal_E3 | illegal_E4 | illegal_EB | illegal_EC | illegal_ED | illegal_F4
  | illegal_FC | illegal_FD => exact ⟨_, by decide, rfl, fun _ => rfl⟩
  | _ => cases h

/-- The illegal instruction decoded from an opcode byte is the one of that byte. -/
theorem decodeBytes_illegal {op b1 b2 : Byte} (h : (decodeBytes op b1 b2).isIllegalByte = true) :
    op ∈ illegalBytes ∧ ∀ s : State, exec (decodeBytes op b1 b2) s = illegal op s := by
  obtain ⟨op', hmem, hbytes, hexec⟩ := illegal_cases h
  obtain ⟨hrow, -⟩ := decodeBytes_row op b1 b2
  obtain rfl : op = op' := List.head_eq_of_cons_eq (hrow.symm.trans hbytes)
  exact ⟨hmem, hexec⟩

/-- R116: each of the eleven bytes decodes to an illegal instruction. -/
theorem decodeBytes_isIllegalByte {op : Byte} (h : op ∈ illegalBytes) (b1 b2 : Byte) :
    (decodeBytes op b1 b2).isIllegalByte = true := by
  simp only [illegalBytes, List.mem_cons, List.not_mem_nil, or_false] at h
  rcases h with rfl | rfl | rfl | rfl | rfl | rfl | rfl | rfl | rfl | rfl | rfl <;> rfl

/-- Settles O3: the illegal instructions are those of the eleven bytes, in both directions. -/
theorem elevenBytesAreIllegalAndFault : Obligations.ElevenBytesAreIllegalAndFault := by
  unfold Obligations.ElevenBytesAreIllegalAndFault
  intro op b1 b2
  refine ⟨⟨fun h => (decodeBytes_illegal h).1, fun h => decodeBytes_isIllegalByte h b1 b2⟩, fun h => ?_⟩
  exact (decodeBytes_illegal (decodeBytes_isIllegalByte h b1 b2)).2

/-! ## O37 -/

/-- R115, R118: the operation of `prefix_CB` is that of the instruction its second byte selects. -/
theorem exec_decodeCb (op2 : Byte) (s : State) : exec (decodeCb op2) s = complete 2 (cbOperation op2) s := by
  have hy : min (fieldY op2) 7 = fieldY op2 := Nat.min_eq_left (Nat.le_of_lt_succ (fieldY_lt op2))
  have hbit := exec_bitR8 (fieldY op2) (R8.ofIndex (fieldZ op2)) s
  have hres := exec_resR8 (fieldY op2) (R8.ofIndex (fieldZ op2)) s
  have hset := exec_setR8 (fieldY op2) (R8.ofIndex (fieldZ op2)) s
  rw [hy] at hbit hres hset
  have hx := fieldX_lt op2
  unfold decodeCb complete cbOperation
  generalize fieldX op2 = x at *
  interval_cases x
  · exact exec_rotR8 _ _ s
  · exact hbit
  · exact hres
  · exact hset

/-- Settles O37: the same operation behind the same fetch, and the same two bytes. -/
theorem prefixRowRunsTheSecondPage : Obligations.PrefixRowRunsTheSecondPage := by
  unfold Obligations.PrefixRowRunsTheSecondPage
  intro op2 s
  obtain ⟨hbytes, -⟩ := decodeCb_row op2
  exact ⟨(exec_decodeCb op2 s).symm, hbytes.symm, cbOperation op2 (s.fetched 2), rfl⟩

/-! ## O4 -/

/-- Settles O4: each word is the encoding of its instruction, with nothing behind it. -/
theorem writtenWordsDecode : Obligations.WrittenWordsDecode := by
  unfold Obligations.WrittenWordsDecode
  and_intros <;> exact decode_of_encode_eq rfl rfl

end Sys2Proof.Machine
end

section
/-! SUPPORT. The 8-bit loads (spec/40_load8.md R140 to R158): the next state of each shared operation with its operands read
before the fetch, and O19, O20 and O21. -/

namespace Sys2Proof.Machine

/-! ## M-cycles of an opcode that is neither conditional nor 0xCB -/

/-- R406: such an opcode has one count, whatever the state. -/
theorem cycles_of_encode {i : Instr} {op : Byte} {l : List Byte} (he : encode i = op :: l) (hprefix : op ≠ 0xCB)
    (hcond : opCond op = none) (s : State) : cycles i s = opCycles op := by
  simp only [cycles, he, if_neg hprefix, hcond]

/-! ## Loads between operands (R140 to R144) -/

/-- R104: index 6 is the byte at `HL`. -/
theorem R8.ofIndex_eq_mHL {i : Nat} (hi : i < 8) : R8.ofIndex i = .mHL ↔ i = 6 := by
  interval_cases i <;> decide

/-- R140 to R142: the loads are one-byte rows of the quadrant `x = 1`. -/
theorem encode_ldR8R8 {y z : Nat} (hy : y < 8) (hz : z < 8) :
    encode (ldR8R8 (R8.ofIndex y) (R8.ofIndex z)) = [opcode 1 y z] := by
  have hlength : ∀ y < 8, ∀ z < 8, lengthOfFirst (opcode 1 y z) = 1 := by decide
  rw [(ldR8R8_isRow hy hz 0).bytes, hlength y hy z hz]
  rfl

/-- R143, R144: the immediate loads are the column `z = 6` of the quadrant `x = 0`, the byte behind the opcode. -/
theorem encode_ldR8Imm {y : Nat} (hy : y < 8) (n : Byte) : encode (ldR8Imm (R8.ofIndex y) n) = [opcode 0 y 6, n] := by
  have hlength : ∀ y < 8, lengthOfFirst (opcode 0 y 6) = 2 := by decide
  have hbytes : encode (ldR8Imm (R8.ofIndex y) (lo (join 0 n))) = _ :=
    (decodeX0_isRow hy (by decide : 6 < 8) (join 0 n)).bytes
  rwa [lo_join, hlength y hy] at hbytes

/-- R140 to R142: one more M-cycle for the byte at `HL`, on either side. -/
theorem cycles_ldR8R8 {y z : Nat} (hy : y < 8) (hz : z < 8) (hhalt : ¬ (y = 6 ∧ z = 6)) (s : State) :
    cycles (ldR8R8 (R8.ofIndex y) (R8.ofIndex z)) s = if y = 6 ∨ z = 6 then 2 else 1 := by
  have hgrid : ∀ y < 8, ∀ z < 8, ¬ (y = 6 ∧ z = 6) → opcode 1 y z ≠ 0xCB ∧ opCond (opcode 1 y z) = none ∧
      opCycles (opcode 1 y z) = if y = 6 ∨ z = 6 then 2 else 1 := by decide
  obtain ⟨hprefix, hcond, hcount⟩ := hgrid y hy z hz hhalt
  rw [cycles_of_encode (encode_ldR8R8 hy hz) hprefix hcond, hcount]

/-- R143, R144: the third M-cycle is the store to `HL`. -/
theorem cycles_ldR8Imm {y : Nat} (hy : y < 8) (n : Byte) (s : State) :
    cycles (ldR8Imm (R8.ofIndex y) n) s = if y = 6 then 3 else 2 := by
  have hgrid : ∀ y < 8, opcode 0 y 6 ≠ 0xCB ∧ opCond (opcode 0 y 6) = none ∧
      opCycles (opcode 0 y 6) = if y = 6 then 3 else 2 := by decide
  obtain ⟨hprefix, hcond, hcount⟩ := hgrid y hy
  rw [cycles_of_encode (encode_ldR8Imm hy n) hprefix hcond, hcount]

theorem complete_ldR8 (n : Nat) (d r : R8) (s : State) :
    complete n (ldR8 d r) s = .next ((s.fetched n).setR8 d (s.getR8 r)) := by
  rw [complete, ldR8, State.fetched_getR8]

/-- Settles O19: the load completes with `ldR8` or `ldImm`, whose operand the fetch leaves alone; the index pair (6, 6), the
slot of `HALT`, is the one left out. -/
theorem eightBitLoadsBetweenOperands : Obligations.EightBitLoadsBetweenOperands := by
  unfold Obligations.EightBitLoadsBetweenOperands
  intro s y z n hy hz
  refine ⟨fun hhalt => ⟨encode_ldR8R8 hy hz, cycles_ldR8R8 hy hz hhalt s, ?_⟩, ?_, cycles_ldR8Imm hy n s,
    exec_ldR8Imm _ n s⟩
  · rw [exec_ldR8R8 (by rwa [R8.ofIndex_eq_mHL hy, R8.ofIndex_eq_mHL hz]), complete_ldR8]
  · rw [encode_ldR8Imm hy, opcode, Nat.mul_zero, Nat.zero_add, Nat.add_comm]

/-! ## Loads and stores through a pair (R145 to R148, R155 to R158) -/

theorem cycles_loadAMem (p : R16Mem) (s : State) : cycles (loadAMem p) s = 2 := by
  cases p <;> rfl

theorem cycles_storeAMem (p : R16Mem) (s : State) : cycles (storeAMem p) s = 2 := by
  cases p <;> rfl

/-- The load reads through the pair as it was before the fetch, then steps `HL`. -/
theorem exec_loadAMem_next (p : R16Mem) (s : State) :
    exec (loadAMem p) s = .next ({ s.fetched 1 with a := s.read (s.memAddr p) }.memStep p) := by
  rw [exec_loadAMem, complete, loadMem, loadA, State.fetched_memAddr, State.fetched_read]

/-- The store writes through the pair as it was before the fetch, then steps `HL`. -/
theorem exec_storeAMem_next (p : R16Mem) (s : State) :
    exec (storeAMem p) s = .next (((s.fetched 1).write (s.memAddr p) s.a).memStep p) := by
  rw [exec_storeAMem, complete, storeMem, storeA, State.fetched_memAddr, State.fetched_a]

/-- R107: `HL+` steps `HL` from the value `w` it has when the access is done. -/
theorem State.memStep_HLi {t : State} {w : Word} (h : t.hl = w) :
    t.memStep .HLi = { t with h := hi (w + 1), l := lo (w + 1) } := by
  rw [State.memStep, h, State.setHL]

theorem State.memStep_HLd {t : State} {w : Word} (h : t.hl = w) :
    t.memStep .HLd = { t with h := hi (w - 1), l := lo (w - 1) } := by
  rw [State.memStep, h, State.setHL]

@[simp] theorem State.write_hl (s : State) (addr : Word) (v : Byte) : (s.write addr v).hl = s.hl := by
  simp [State.hl]

/-- Settles O20: neither the fetch nor the access changes `HL`, so its step is from the value the access used. -/
theorem loadsAndStoresThroughPairs : Obligations.LoadsAndStoresThroughPairs := by
  unfold Obligations.LoadsAndStoresThroughPairs
  intro s
  have hload : { s.fetched 1 with a := s.read s.hl }.hl = s.hl := State.fetched_hl 1 s
  have hstore : ((s.fetched 1).write s.hl s.a).hl = s.hl := by simp
  refine ⟨by and_intros <;> rfl, fun p => ⟨cycles_loadAMem p s, cycles_storeAMem p s⟩, exec_loadAMem_next .BC s,
    exec_loadAMem_next .DE s, ?loadInc, ?loadDec, exec_storeAMem_next .BC s, exec_storeAMem_next .DE s, ?storeInc, ?storeDec⟩
  case loadInc => exact (exec_loadAMem_next .HLi s).trans (congrArg _ (State.memStep_HLi hload))
  case loadDec => exact (exec_loadAMem_next .HLd s).trans (congrArg _ (State.memStep_HLd hload))
  case storeInc => exact (exec_storeAMem_next .HLi s).trans (congrArg _ (State.memStep_HLi hstore))
  case storeDec => exact (exec_storeAMem_next .HLd s).trans (congrArg _ (State.memStep_HLd hstore))

/-! ## Absolute addresses and the high page (R149 to R154) -/

/-- R151 to R154: `0xFF00 + n` does not carry out of the page, so it is the byte behind 0xFF. -/
theorem highPage_eq_join (n : Byte) : highPage n = join 0xFF n := by
  have happend : (join 0xFF n).toNat = 0xFF00 + n.toNat := by
    rw [join, BitVec.toNat_append, ← Nat.shiftLeft_add_eq_or_of_lt n.isLt]
    rfl
  apply BitVec.eq_of_toNat_eq
  rw [happend, highPage, zext16]
  bv_omega

/-- A load of `A` from the address `w` that the state behind the fetch gives; the byte there is the one before it. -/
theorem complete_loadA {n : Nat} {addr : State → Word} {s : State} {w : Word} (h : addr (s.fetched n) = w) :
    complete n (fun t => loadA (addr t) t) s = .next { s.fetched n with a := s.read w } := by
  rw [complete, loadA, h, State.fetched_read]

theorem complete_storeA {n : Nat} {addr : State → Word} {s : State} {w : Word} (h : addr (s.fetched n) = w) :
    complete n (fun t => storeA (addr t) t) s = .next ((s.fetched n).write w s.a) := by
  rw [complete, storeA, h, State.fetched_a]

/-- Settles O21: each form completes with a load or a store of `A` at one address, on the high page `{0xFF, byte}`. -/
theorem directAndHighPageLoads : Obligations.DirectAndHighPageLoads := by
  unfold Obligations.DirectAndHighPageLoads
  intro s nn n
  have hC : highPage (s.fetched 1).c = highPage s.c := congrArg highPage (State.fetched_c 1 s)
  rw [← highPage_eq_join s.c, ← highPage_eq_join n]
  refine ⟨by and_intros <;> rfl, by and_intros <;> rfl, ?loadAbs, ?storeAbs, ?loadC, ?storeC, ?loadImm, ?storeImm⟩
  case loadAbs => exact complete_loadA (addr := fun _ => nn) rfl
  case storeAbs => exact complete_storeA (addr := fun _ => nn) rfl
  case loadC => exact complete_loadA (addr := fun t => highPage t.c) hC
  case storeC => exact complete_storeA (addr := fun t => highPage t.c) hC
  case loadImm => exact complete_loadA (addr := fun _ => highPage n) rfl
  case storeImm => exact complete_storeA (addr := fun _ => highPage n) rfl

end Sys2Proof.Machine
end

section
/-! SUPPORT. The 16-bit loads and the stack instructions (spec/41_load16_stack.md R170 to R175): the next state of each shared
operation with its operands read before the fetch, and O22 and O23. -/

namespace Sys2Proof.Machine

/-! ## Loads of a pair and of `SP` (R170 to R172) -/

theorem cycles_ldR16Imm (p : R16) (nn : Word) (s : State) : cycles (ldR16Imm p nn) s = 3 := by
  cases p <;> rfl

/-- R171: the word stored is the `SP` before the fetch, its low byte first. -/
theorem complete_storeSP (n : Nat) (nn : Word) (s : State) :
    complete n (storeSP nn) s = .next (((s.fetched n).write nn (lo s.sp)).write (nn + 1) (hi s.sp)) := by
  rw [complete, storeSP, State.write16, State.fetched_sp]

theorem complete_ldSPHL (n : Nat) (s : State) : complete n ldSPHL s = .next { s.fetched n with sp := s.hl } := by
  rw [complete, ldSPHL, State.fetched_hl]

/-- Settles O22: each form completes with `ldPair`, `storeSP` or `ldSPHL`, and the fetch leaves `SP` and `HL` alone. -/
theorem sixteenBitLoads : Obligations.SixteenBitLoads := by
  unfold Obligations.SixteenBitLoads
  intro s nn
  exact ⟨by and_intros <;> rfl, fun p => cycles_ldR16Imm p nn s, rfl, rfl, exec_ldR16Imm .BC nn s, exec_ldR16Imm .DE nn s,
    exec_ldR16Imm .HL nn s, exec_ldR16Imm .SP nn s, complete_storeSP 3 nn s, complete_ldSPHL 1 s⟩

/-! ## PUSH and POP (R173 to R175) -/

theorem cycles_pushR16 (p : R16Stk) (s : State) : cycles (pushR16 p) s = 4 := by
  cases p <;> rfl

theorem cycles_popR16 (p : R16Stk) (s : State) : cycles (popR16 p) s = 3 := by
  cases p <;> rfl

/-- R173: a push of the pair of the registers `h` and `l` stores `h` at `SP - 1`, then `l` at `SP - 2`. -/
theorem exec_pushR16_of_join {p : R16Stk} {s : State} {h l : Byte} (hpair : s.getStk p = join h l) :
    exec (pushR16 p) s = .next { ((s.fetched 1).write (s.sp - 1) h).write (s.sp - 2) l with sp := s.sp - 2 } := by
  have hsp : s.sp - 1 - 1 = s.sp - 2 := by bv_omega
  rw [exec_pushR16, complete, push, State.push16_eq, State.fetched_getStk, State.fetched_sp, hpair, hi_join, lo_join, hsp]

/-- R174: a pop writes the pair from the two bytes at `SP` as they were before the fetch, and steps over them. -/
theorem exec_popR16_next (p : R16Stk) (s : State) :
    exec (popR16 p) s =
      .next ({ s.fetched 1 with sp := s.sp + 2 }.setStk p (join (s.read (s.sp + 1)) (s.read s.sp))) := by
  have hsp : s.sp + 1 + 1 = s.sp + 2 := by bv_omega
  rw [exec_popR16, complete, pop, State.pop16_fst, State.pop16_snd, State.fetched_sp, State.fetched_read,
    State.fetched_read, hsp]

/-- Settles O23: the stored bytes are the registers of the pair and the loaded bytes become them; only `AF` masks one. -/
theorem pushAndPopOfAPair : Obligations.PushAndPopOfAPair := by
  unfold Obligations.PushAndPopOfAPair
  intro s
  refine ⟨by and_intros <;> rfl, fun p => ⟨cycles_pushR16 p s, cycles_popR16 p s⟩, exec_pushR16_of_join (p := .BC) rfl,
    exec_pushR16_of_join (p := .DE) rfl, exec_pushR16_of_join (p := .HL) rfl, exec_pushR16_of_join (p := .AF) rfl,
    (exec_popR16_next .BC s).trans ?popBC, (exec_popR16_next .DE s).trans ?popDE, (exec_popR16_next .HL s).trans ?popHL,
    (exec_popR16_next .AF s).trans ?popAF⟩
  case popBC => rw [State.setStk, State.setBC, hi_join, lo_join]
  case popDE => rw [State.setStk, State.setDE, hi_join, lo_join]
  case popHL => rw [State.setStk, State.setHL, hi_join, lo_join]
  case popAF => rw [State.setStk, State.setAF, hi_join, lo_join]

end Sys2Proof.Machine
end

section
/-! SUPPORT. 8-bit arithmetic and logic (spec/42_alu8.md R190 to R207): the next state of each shared operation on unsigned
integers, and O25 to O29. -/

namespace Sys2Proof.Machine

/-! ## The encodings (R190, R199 to R202) -/

theorem encode_aluR8 {y z : Nat} (hy : y < 8) (hz : z < 8) :
    encode (aluR8 (AluOp.ofIndex y) (R8.ofIndex z)) = [opcode 2 y z] := by
  have hlength : ∀ y < 8, ∀ z < 8, lengthOfFirst (opcode 2 y z) = 1 := by decide
  rw [(aluR8_isRow hy hz 0).bytes, hlength y hy z hz]
  rfl

theorem encode_aluImm {y : Nat} (hy : y < 8) (n : Byte) : encode (aluImm (AluOp.ofIndex y) n) = [opcode 3 y 6, n] := by
  have hlength : ∀ y < 8, lengthOfFirst (opcode 3 y 6) = 2 := by decide
  have hbytes : encode (aluImm (AluOp.ofIndex y) (lo (join 0 n))) = _ :=
    (decodeX3_isRow hy (by decide : 6 < 8) (join 0 n)).bytes
  rwa [lo_join, hlength y hy] at hbytes

/-- R199 to R202: the increments and decrements are the columns `z = 4` and `z = 5` of the quadrant `x = 0`. -/
theorem encode_incR8_decR8 {y : Nat} (hy : y < 8) :
    encode (incR8 (R8.ofIndex y)) = [opcode 0 y 4] ∧ encode (decR8 (R8.ofIndex y)) = [opcode 0 y 5] := by
  have hlength : ∀ y < 8, lengthOfFirst (opcode 0 y 4) = 1 ∧ lengthOfFirst (opcode 0 y 5) = 1 := by decide
  obtain ⟨hinc, hdec⟩ := hlength y hy
  have hincBytes := (decodeX0_isRow hy (by decide : 4 < 8) 0).bytes
  have hdecBytes := (decodeX0_isRow hy (by decide : 5 < 8) 0).bytes
  rw [hinc] at hincBytes
  rw [hdec] at hdecBytes
  exact ⟨hincBytes, hdecBytes⟩

/-- R190: one more M-cycle for the byte at `HL`. -/
theorem cycles_aluR8 {y z : Nat} (hy : y < 8) (hz : z < 8) (s : State) :
    cycles (aluR8 (AluOp.ofIndex y) (R8.ofIndex z)) s = if z = 6 then 2 else 1 := by
  have hgrid : ∀ y < 8, ∀ z < 8, opcode 2 y z ≠ 0xCB ∧ opCond (opcode 2 y z) = none ∧
      opCycles (opcode 2 y z) = if z = 6 then 2 else 1 := by decide
  obtain ⟨hprefix, hcond, hcount⟩ := hgrid y hy z hz
  rw [cycles_of_encode (encode_aluR8 hy hz) hprefix hcond, hcount]

theorem cycles_aluImm (op : AluOp) (n : Byte) (s : State) : cycles (aluImm op n) s = 2 := by
  cases op <;> rfl

/-- R200, R202: two more M-cycles for the load and the store of the byte at `HL`. -/
theorem cycles_incR8_decR8 {y : Nat} (hy : y < 8) (s : State) :
    cycles (incR8 (R8.ofIndex y)) s = (if y = 6 then 3 else 1) ∧ cycles (decR8 (R8.ofIndex y)) s = if y = 6 then 3 else 1 := by
  interval_cases y <;> exact ⟨rfl, rfl⟩

/-! ## One operation, three forms (R190) -/

/-- The operand of the register forms is the one before the fetch. -/
theorem exec_aluR8_next (op : AluOp) (r : R8) (s : State) :
    exec (aluR8 op r) s = .next (aluOp op (s.getR8 r) (s.fetched 1)) := by
  rw [exec_aluR8, complete, aluReg, State.fetched_getR8]

/-- R190: what the operation makes of the state behind each fetch gives both forms their next state. -/
theorem exec_alu_forms {op : AluOp} {s : State} {result : Nat → Byte → State}
    (h : ∀ k b, aluOp op b (s.fetched k) = result k b) (r : R8) (n : Byte) :
    exec (aluR8 op r) s = .next (result 1 (s.getR8 r)) ∧ exec (aluImm op n) s = .next (result 2 n) := by
  rw [exec_aluR8_next, exec_aluImm, complete, h, h]
  exact ⟨rfl, rfl⟩

/-- No operation reads or writes `PC` or the halt bug. -/
theorem aluOp_with_pc (op : AluOp) (v : Byte) (s : State) (w : Word) (b : Bool) :
    aluOp op v { s with pc := w, haltBug := b } = { aluOp op v s with pc := w, haltBug := b } := by
  cases op <;> rfl

/-- Two fetches of one state differ in `PC` and the halt bug only. -/
theorem State.fetched_eq_fetched (m n : Nat) (s : State) :
    s.fetched m = { s.fetched n with pc := (s.fetched m).pc, haltBug := (s.fetched m).haltBug } := by
  conv => lhs; rw [State.fetched_eq]
  rw [State.fetched_eq n]

/-- Settles O25: both forms run one operation on the same operand, each behind its own fetch. -/
theorem eightBitAluOperandForms : Obligations.EightBitAluOperandForms := by
  unfold Obligations.EightBitAluOperandForms
  intro s y z n hy hz
  refine ⟨encode_aluR8 hy hz, cycles_aluR8 hy hz s, ?imm, cycles_aluImm _ n s, _, _, exec_aluR8_next _ _ s,
    exec_aluImm _ _ s, ?differ⟩
  case imm => rw [encode_aluImm hy, opcode, Nat.add_right_comm]
  case differ =>
    rw [State.fetched_eq_fetched 1 2, aluOp_with_pc, State.fetched_haltBug]

/-! ## Addition (R191, R192) -/

/-- R207: the `Z` flag of a result, from the integer it is the residue of. -/
theorem ofNat_beq_zero (n : Nat) : (BitVec.ofNat 8 n == 0) = decide (n % 256 = 0) := by
  rw [beq_eq_decide]
  simp [BitVec.toNat_eq]

theorem addOp_eq (c : Nat) (v : Byte) (s : State) :
    addOp c v s = { s with
      a := BitVec.ofNat 8 (s.a.toNat + v.toNat + c)
      f := packF (decide ((s.a.toNat + v.toNat + c) % 256 = 0)) false (addHalf s.a v c) (addCarry s.a v c) } := by
  have hsum : s.a + v + BitVec.ofNat 8 c = BitVec.ofNat 8 (s.a.toNat + v.toNat + c) := by
    simp [BitVec.ofNat_add]
  rw [addOp, hsum, ofNat_beq_zero, State.setFlags]

/-- Settles O26: both operations add on integers, `ADC` with the carry flag as it was before the fetch. -/
theorem additionAndItsFlags : Obligations.AdditionAndItsFlags := by
  unfold Obligations.AdditionAndItsFlags
  intro s r n sum cin
  have hadd : ∀ k b, aluOp .add b (s.fetched k) = sum k b 0 := fun k b => by
    rw [aluOp, addOp_eq, State.fetched_a]; rfl
  have hadc : ∀ k b, aluOp .adc b (s.fetched k) = sum k b cin := fun k b => by
    rw [aluOp, addOp_eq, State.carryIn, State.fetched_a, State.fetched_cf]; rfl
  obtain ⟨haddR, haddN⟩ := exec_alu_forms hadd r n
  obtain ⟨hadcR, hadcN⟩ := exec_alu_forms hadc r n
  exact ⟨haddR, haddN, hadcR, hadcN⟩

/-! ## Subtraction and comparison (R193, R194, R198) -/

/-- The difference of integers is raised by 512 to stay in the naturals. -/
theorem subOp_eq {c : Nat} (hc : c ≤ 1) (v : Byte) (s : State) :
    subOp c v s = { s with
      a := BitVec.ofNat 8 (s.a.toNat + 512 - v.toNat - c)
      f := packF (decide ((s.a.toNat + 512 - v.toNat - c) % 256 = 0)) true (subHalf s.a v c) (subBorrow s.a v c) } := by
  have hdiff : s.a - v - BitVec.ofNat 8 c = BitVec.ofNat 8 (s.a.toNat + 512 - v.toNat - c) := by
    bv_omega
  rw [subOp, hdiff, ofNat_beq_zero, State.setFlags]

/-- R198: as `SUB`, but `A` is not written. -/
theorem cpOp_eq_subOp (v : Byte) (s : State) : cpOp v s = { subOp 0 v s with a := s.a } := by
  have hzero : (s.a == v) = (s.a - v - BitVec.ofNat 8 0 == 0) := by
    rw [beq_eq_decide, beq_eq_decide, decide_eq_decide]
    bv_omega
  rw [cpOp, hzero]
  rfl

theorem carryIn_le_one (s : State) : s.carryIn ≤ 1 := by
  rw [State.carryIn, bit]
  split <;> decide

/-- Settles O27: the three operations subtract on integers, `SBC` with the carry flag as it was before the fetch. -/
theorem subtractionCompareAndTheirFlags : Obligations.SubtractionCompareAndTheirFlags := by
  unfold Obligations.SubtractionCompareAndTheirFlags
  intro s r n flags diff cin
  have hsub : ∀ k b, aluOp .sub b (s.fetched k) = diff k b 0 := fun k b => by
    rw [aluOp, subOp_eq (Nat.zero_le 1), State.fetched_a]; rfl
  have hsbc : ∀ k b, aluOp .sbc b (s.fetched k) = diff k b cin := fun k b => by
    rw [aluOp, subOp_eq (carryIn_le_one _), State.carryIn, State.fetched_a, State.fetched_cf]; rfl
  have hcp : ∀ k b, aluOp .cp b (s.fetched k) = { s.fetched k with f := flags b 0 } := fun k b => by
    rw [aluOp, cpOp_eq_subOp, ← aluOp, hsub]
  obtain ⟨hsubR, hsubN⟩ := exec_alu_forms hsub r n
  obtain ⟨hsbcR, hsbcN⟩ := exec_alu_forms hsbc r n
  obtain ⟨hcpR, hcpN⟩ := exec_alu_forms hcp r n
  exact ⟨hsubR, hsubN, hsbcR, hsbcN, hcpR, hcpN⟩

/-! ## Logic (R195 to R197) -/

/-- Settles O28: the operations are the bitwise ones on the `A` before the fetch. -/
theorem logicAndItsFlags : Obligations.LogicAndItsFlags := by
  unfold Obligations.LogicAndItsFlags
  intro s r n result
  have hand : ∀ k b, aluOp .and b (s.fetched k) = result k (s.a &&& b) true := fun k b => by
    rw [aluOp, andOp, State.fetched_a]; rfl
  have hxor : ∀ k b, aluOp .xor b (s.fetched k) = result k (s.a ^^^ b) false := fun k b => by
    rw [aluOp, xorOp, State.fetched_a]; rfl
  have hor : ∀ k b, aluOp .or b (s.fetched k) = result k (s.a ||| b) false := fun k b => by
    rw [aluOp, orOp, State.fetched_a]; rfl
  obtain ⟨handR, handN⟩ := exec_alu_forms hand r n
  obtain ⟨hxorR, hxorN⟩ := exec_alu_forms hxor r n
  obtain ⟨horR, horN⟩ := exec_alu_forms hor r n
  exact ⟨handR, handN, hxorR, hxorN, horR, horN⟩

/-! ## Increment and decrement (R199 to R202) -/

theorem incOp_eq (d : R8) (s : State) :
    incOp d s = { s.setR8 d (BitVec.ofNat 8 ((s.getR8 d).toNat + 1)) with
      f := packF (decide ((s.getR8 d).toNat = 255)) false (incHalf (s.getR8 d)) s.cf } := by
  have hvalue : s.getR8 d + 1 = BitVec.ofNat 8 ((s.getR8 d).toNat + 1) := by simp [BitVec.ofNat_add]
  have hzero : (BitVec.ofNat 8 ((s.getR8 d).toNat + 1) == 0) = decide ((s.getR8 d).toNat = 255) := by
    rw [ofNat_beq_zero, decide_eq_decide]
    bv_omega
  rw [incOp, hvalue, hzero, State.setFlags]

theorem decOp_eq (d : R8) (s : State) :
    decOp d s = { s.setR8 d (BitVec.ofNat 8 ((s.getR8 d).toNat + 255)) with
      f := packF (decide ((s.getR8 d).toNat = 1)) true (decHalf (s.getR8 d)) s.cf } := by
  have hvalue : s.getR8 d - 1 = BitVec.ofNat 8 ((s.getR8 d).toNat + 255) := by bv_omega
  have hzero : (BitVec.ofNat 8 ((s.getR8 d).toNat + 255) == 0) = decide ((s.getR8 d).toNat = 1) := by
    rw [ofNat_beq_zero, decide_eq_decide]
    bv_omega
  rw [decOp, hvalue, hzero, State.setFlags]

/-- Settles O29: the operand and the kept carry flag are those before the fetch. -/
theorem incrementDecrementAndTheirFlags : Obligations.IncrementDecrementAndTheirFlags := by
  unfold Obligations.IncrementDecrementAndTheirFlags
  intro s y hy d v
  obtain ⟨hincBytes, hdecBytes⟩ := encode_incR8_decR8 hy
  obtain ⟨hincCycles, hdecCycles⟩ := cycles_incR8_decR8 hy s
  refine ⟨?incBytes, ?decBytes, hincCycles, hdecCycles, ?inc, ?dec⟩
  case incBytes => rw [hincBytes, opcode, Nat.mul_zero, Nat.zero_add, Nat.add_comm]
  case decBytes => rw [hdecBytes, opcode, Nat.mul_zero, Nat.zero_add, Nat.add_comm]
  case inc => rw [exec_incR8, complete, incOp_eq, State.fetched_getR8, State.fetched_cf]; rfl
  case dec => rw [exec_decR8, complete, decOp_eq, State.fetched_getR8, State.fetched_cf]; rfl

end Sys2Proof.Machine
end

section
/-! SUPPORT. `DAA`, the flag instructions and packed decimal arithmetic (spec/42_alu8.md R203 to R206): the adjustment on unsigned
integers, and O30 and O31. -/

namespace Sys2Proof.Machine

/-! ## The adjustment (R203) -/

/-- R203: the correction of the low digit, from `A` and the flags as they stand before the adjustment. -/
def daaLow (s : State) : Nat := if s.hf = true ∨ (s.nf = false ∧ s.a.toNat % 16 > 9) then 0x06 else 0

/-- R203: the correction of the high digit. -/
def daaHigh (s : State) : Nat := if s.cf = true ∨ (s.nf = false ∧ s.a.toNat > 0x99) then 0x60 else 0

/-- R203: the adjusted `A`. -/
def daaValue (s : State) : Nat :=
  (if s.nf then s.a.toNat + 256 - (daaLow s + daaHigh s) else s.a.toNat + (daaLow s + daaHigh s)) % 256

/-- R203: the carry flag after the adjustment; one that was set stays set. -/
def daaCarry (s : State) : Bool := s.cf || (!s.nf && decide (s.a.toNat > 0x99))

theorem daaValue_of_add {s : State} (h : s.nf = false) : daaValue s = (s.a.toNat + (daaLow s + daaHigh s)) % 256 := by
  simp [daaValue, h]

theorem daaValue_of_sub {s : State} (h : s.nf = true) :
    daaValue s = (s.a.toNat + 256 - (daaLow s + daaHigh s)) % 256 := by
  simp [daaValue, h]

theorem daaCorrection_le (s : State) : daaLow s + daaHigh s ≤ 0x66 := by
  unfold daaLow daaHigh
  split <;> split <;> decide

/-- The two corrections share no bit, so that their union is their sum. -/
theorem correction_or_eq_add (low high : Bool) :
    ((if low then 0x06 else 0) ||| (if high then 0x60 else 0) : Byte) =
      BitVec.ofNat 8 ((if low then 0x06 else 0) + (if high then 0x60 else 0)) := by
  cases low <;> cases high <;> rfl

/-- R203 on integers: the corrections are added after an addition and subtracted after a subtraction. -/
theorem daaOp_eq (s : State) :
    daaOp s = { s with
      a := BitVec.ofNat 8 (daaValue s)
      f := packF (decide (daaValue s = 0)) s.nf false (daaCarry s) } := by
  have hzero : (BitVec.ofNat 8 (daaValue s) == 0) = decide (daaValue s = 0) := by
    rw [ofNat_beq_zero, daaValue, Nat.mod_mod]
  cases hn : s.nf with
  | false =>
    have hlow : daaLow s = if daaAddLow s then 0x06 else 0 := by simp [daaLow, daaAddLow, hn]
    have hhigh : daaHigh s = if daaAddHigh s then 0x60 else 0 := by simp [daaHigh, daaAddHigh, hn]
    have hcarry : daaCarry s = daaAddHigh s := by simp [daaCarry, daaAddHigh, hn]
    have hvalue : s.a + ((if daaAddLow s then 0x06 else 0) ||| (if daaAddHigh s then 0x60 else 0)) =
        BitVec.ofNat 8 (daaValue s) := by
      rw [correction_or_eq_add, ← hlow, ← hhigh, daaValue_of_add hn]
      bv_omega
    simp only [daaOp, hn, hvalue, hzero, hcarry, State.setFlags, Bool.false_eq_true, if_false]
  | true =>
    have hle := daaCorrection_le s
    have hlow : daaLow s = if s.hf then 0x06 else 0 := by simp [daaLow, hn]
    have hhigh : daaHigh s = if s.cf then 0x60 else 0 := by simp [daaHigh, hn]
    have hcarry : daaCarry s = s.cf := by simp [daaCarry, hn]
    have hvalue : s.a - ((if s.hf then 0x06 else 0) ||| (if s.cf then 0x60 else 0)) = BitVec.ofNat 8 (daaValue s) := by
      rw [correction_or_eq_add, ← hlow, ← hhigh, daaValue_of_sub hn]
      bv_omega
    simp only [daaOp, hn, hvalue, hzero, hcarry, State.setFlags, if_true]

/-- Neither `A` nor the flags come from the fetch. -/
theorem daaValue_fetched (k : Nat) (s : State) :
    daaValue (s.fetched k) = daaValue s ∧ daaCarry (s.fetched k) = daaCarry s := by
  simp [daaValue, daaCarry, daaLow, daaHigh]

theorem exec_daa_next (s : State) :
    exec .daa s = .next { s.fetched 1 with
      a := BitVec.ofNat 8 (daaValue s)
      f := packF (decide (daaValue s = 0)) s.nf false (daaCarry s) } := by
  obtain ⟨hvalue, hcarry⟩ := daaValue_fetched 1 s
  have hexec : exec .daa s = complete 1 daaOp s := rfl
  rw [hexec, complete, daaOp_eq, hvalue, hcarry, State.fetched_nf]

/-- Settles O30: the adjustment, and the flags the other three write from those before the fetch. -/
theorem decimalAdjustAndFlagInstructions : Obligations.DecimalAdjustAndFlagInstructions := by
  unfold Obligations.DecimalAdjustAndFlagInstructions
  intro s nf hf cf low high value
  have hcpl : cplOp (s.fetched 1) = { s.fetched 1 with a := s.a ^^^ 0xFF, f := packF s.zf true true s.cf } := by
    rw [cplOp, State.setFlags, State.fetched_a, State.fetched_zf, State.fetched_cf]
  have hscf : scfOp (s.fetched 1) = { s.fetched 1 with f := packF s.zf false false true } := by
    rw [scfOp, State.setFlags, State.fetched_zf]
  have hccf : ccfOp (s.fetched 1) = { s.fetched 1 with f := packF s.zf false false (!s.cf) } := by
    rw [ccfOp, State.setFlags, State.fetched_zf, State.fetched_cf]
  exact ⟨by and_intros <;> rfl, by and_intros <;> rfl, exec_daa_next s, congrArg Host.Outcome.next hcpl,
    congrArg Host.Outcome.next hscf, congrArg Host.Outcome.next hccf⟩

/-! ## Packed decimal bytes (R203) -/

/-- The byte that holds the decimal digits of `x`, as a number. -/
def packDecimal (x : Nat) : Nat := x / 10 * 16 + x % 10

/-- A byte whose nibbles are digits is the pack of the number they spell. -/
theorem packDecimal_of_digits {b : Nat} (hhigh : b / 16 ≤ 9) (hlow : b % 16 ≤ 9) :
    b / 16 * 10 + b % 16 < 100 ∧ b = packDecimal (b / 16 * 10 + b % 16) := by
  unfold packDecimal
  omega

theorem packDecimal_digits {x : Nat} (hx : x < 100) :
    packDecimal x / 16 ≤ 9 ∧ packDecimal x % 16 ≤ 9 ∧ packDecimal x / 16 * 10 + packDecimal x % 16 = x := by
  unfold packDecimal
  omega

theorem packDecimal_le {x : Nat} (hx : x < 100) : packDecimal x ≤ 0x99 := by
  unfold packDecimal
  omega

/-- The sum of two packed bytes is above 0x99 when the decimal sum is above 99, whether its units carry or not. -/
theorem packed_sum_gt_iff (x y : Nat) : packDecimal x + packDecimal y > 0x99 ↔ x + y > 99 := by
  unfold packDecimal
  have htens : x / 10 + y / 10 ≤ 8 ∨ x / 10 + y / 10 = 9 ∨ 10 ≤ x / 10 + y / 10 := by omega
  rcases htens with htens | htens | htens <;> omega

/-- A sum that carries out of bit 7 wraps to less than 0x99, so that `DAA` needs both tests. -/
theorem packed_sum_high_iff {x y : Nat} (hx : x < 100) (hy : y < 100) :
    packDecimal x + packDecimal y > 0xFF ∨ (packDecimal x + packDecimal y) % 256 > 0x99 ↔ x + y > 99 := by
  have hxle := packDecimal_le hx
  have hyle := packDecimal_le hy
  rw [← packed_sum_gt_iff]
  omega

/-! ## The adjustment after an addition and after a subtraction -/

section
variable {s : State} {n : Byte} {x y : Nat} (hx : x < 100) (hy : y < 100) (ha : s.a.toNat = packDecimal x)
  (hn : n.toNat = packDecimal y)
include hx hy ha hn

/-- After an addition of packed bytes the flags and the value of `A` tell where a digit sum passed 9. -/
theorem daa_addOp_of_packed :
    daaValue (addOp 0 n s) = packDecimal ((x + y) % 100) ∧ daaCarry (addOp 0 n s) = decide (x + y > 99) := by
  have hnf : (addOp 0 n s).nf = false := State.setFlags_nf _ _ _ _ _
  have hhf : (addOp 0 n s).hf = decide (packDecimal x % 16 + packDecimal y % 16 > 0x0F) := by
    rw [addOp, State.setFlags_hf, addHalf, ha, hn, Nat.add_zero]
  have hcf : (addOp 0 n s).cf = decide (packDecimal x + packDecimal y > 0xFF) := by
    rw [addOp, State.setFlags_cf, addCarry, ha, hn, Nat.add_zero]
  have hsum : (addOp 0 n s).a.toNat = (packDecimal x + packDecimal y) % 256 := by
    rw [addOp_eq, BitVec.toNat_ofNat, ha, hn, Nat.add_zero]
  have hcarry : daaCarry (addOp 0 n s) = decide (x + y > 99) := by
    simp only [daaCarry, hnf, hcf, hsum, Bool.not_false, Bool.true_and, ← Bool.decide_or, packed_sum_high_iff hx hy]
  have hhigh : daaHigh (addOp 0 n s) = if x + y > 99 then 0x60 else 0 := by
    simp only [daaHigh, hnf, hcf, hsum, decide_eq_true_eq, true_and, packed_sum_high_iff hx hy]
  have hlow : daaLow (addOp 0 n s) = if x % 10 + y % 10 > 9 then 0x06 else 0 := by
    rw [daaLow, hnf, hhf, hsum]
    unfold packDecimal
    congr 1
    simp only [decide_eq_true_eq, true_and, eq_iff_iff]
    omega
  refine ⟨?_, hcarry⟩
  rw [daaValue_of_add hnf, hlow, hhigh, hsum]
  unfold packDecimal
  split <;> split <;> omega

/-- After a subtraction of packed bytes the flags alone tell which digit borrowed. -/
theorem daa_subOp_of_packed :
    daaValue (subOp 0 n s) = packDecimal ((x + 100 - y) % 100) ∧ daaCarry (subOp 0 n s) = decide (x < y) := by
  have hnf : (subOp 0 n s).nf = true := State.setFlags_nf _ _ _ _ _
  have hhf : (subOp 0 n s).hf = decide (x % 10 < y % 10) := by
    rw [subOp, State.setFlags_hf, subHalf, ha, hn, decide_eq_decide]
    unfold packDecimal
    omega
  have hcf : (subOp 0 n s).cf = decide (x < y) := by
    rw [subOp, State.setFlags_cf, subBorrow, ha, hn, decide_eq_decide]
    unfold packDecimal
    omega
  have hdiff : (subOp 0 n s).a.toNat = (packDecimal x + 512 - packDecimal y) % 256 := by
    rw [subOp_eq (Nat.zero_le 1), BitVec.toNat_ofNat, ha, hn, Nat.sub_zero]
  have hcarry : daaCarry (subOp 0 n s) = decide (x < y) := by
    simp [daaCarry, hnf, hcf]
  refine ⟨?_, hcarry⟩
  simp only [daaValue_of_sub hnf, daaLow, daaHigh, hnf, hhf, hcf, hdiff, decide_eq_true_eq, Bool.true_eq_false, false_and,
    or_false]
  unfold packDecimal
  split <;> split <;> omega

end

/-- `DAA` leaves the digits of `z` and the carry in the next state. -/
theorem exec_daa_of_packed {t : State} {z : Nat} {carry : Prop} [Decidable carry]
    (h : daaValue t = packDecimal z ∧ daaCarry t = decide carry) (hz : z < 100) :
    ∃ u, exec .daa t = .next u ∧ (u.a.toNat / 16 ≤ 9 ∧ u.a.toNat % 16 ≤ 9) ∧
      u.a.toNat / 16 * 10 + u.a.toNat % 16 = z ∧ (u.cf = true ↔ carry) := by
  obtain ⟨hvalue, hcarry⟩ := h
  obtain ⟨hhigh, hlow, hdigits⟩ := packDecimal_digits hz
  have hle := packDecimal_le hz
  have ha : (BitVec.ofNat 8 (daaValue t)).toNat = packDecimal z := by
    rw [hvalue, BitVec.toNat_ofNat]
    omega
  refine ⟨_, exec_daa_next t, ?packed, ?digits, ?carry⟩
  case packed => rw [ha]; exact ⟨hhigh, hlow⟩
  case digits => rw [ha]; exact hdigits
  case carry => rw [State.cf, packF_cf, hcarry, decide_eq_true_eq]

/-- Settles O31: both bytes are packs of the numbers they spell, and the adjustment makes the result a pack again. -/
theorem decimalAdditionAndSubtraction : Obligations.DecimalAdditionAndSubtraction := by
  unfold Obligations.DecimalAdditionAndSubtraction
  rintro s n dec packed ⟨haHigh, haLow⟩ ⟨hnHigh, hnLow⟩
  obtain ⟨hx, ha⟩ := packDecimal_of_digits haHigh haLow
  obtain ⟨hy, hn⟩ := packDecimal_of_digits hnHigh hnLow
  have hfetched : (s.fetched 2).a.toNat = packDecimal (dec s.a) := by rw [State.fetched_a]; exact ha
  obtain ⟨u, hu⟩ := exec_daa_of_packed (daa_addOp_of_packed hx hy hfetched hn) (Nat.mod_lt _ (by decide))
  obtain ⟨v, hv⟩ := exec_daa_of_packed (daa_subOp_of_packed hx hy hfetched hn) (Nat.mod_lt _ (by decide))
  exact ⟨⟨_, u, exec_aluImm .add n s, hu⟩, ⟨_, v, exec_aluImm .sub n s, hv⟩⟩

end Sys2Proof.Machine
end

section
/-! SUPPORT. 16-bit arithmetic (spec/43_alu16.md R230 to R234): the next state of each shared operation on unsigned integers, with
its operands read before the fetch, and O32 and O33. -/

namespace Sys2Proof.Machine

/-! ## ADD HL, INC and DEC of a pair (R230 to R232) -/

/-- R113: the three columns of the quadrant `x = 0`, one row per pair. -/
theorem encode_addHlR16_incR16_decR16 {p : Nat} (hp : p < 4) :
    encode (addHlR16 (R16.ofIndex p)) = [BitVec.ofNat 8 (9 + 16 * p)] ∧
    encode (incR16 (R16.ofIndex p)) = [BitVec.ofNat 8 (3 + 16 * p)] ∧
    encode (decR16 (R16.ofIndex p)) = [BitVec.ofNat 8 (11 + 16 * p)] := by
  interval_cases p <;> exact ⟨rfl, rfl, rfl⟩

theorem cycles_addHlR16_incR16_decR16 (p : R16) (s : State) :
    cycles (addHlR16 p) s = 2 ∧ cycles (incR16 p) s = 2 ∧ cycles (decR16 p) s = 2 := by
  cases p <;> exact ⟨rfl, rfl, rfl⟩

/-- R230: the sum is one of integers; `N` is cleared and `Z` kept. -/
theorem addHL_eq (p : R16) (s : State) :
    addHL p s = { s with
      h := hi (BitVec.ofNat 16 (s.hl.toNat + (s.getR16 p).toNat))
      l := lo (BitVec.ofNat 16 (s.hl.toNat + (s.getR16 p).toNat))
      f := packF s.zf false (addHalf16 s.hl (s.getR16 p)) (addCarry16 s.hl (s.getR16 p)) } := by
  have hsum : s.hl + s.getR16 p = BitVec.ofNat 16 (s.hl.toNat + (s.getR16 p).toNat) := by simp [BitVec.ofNat_add]
  rw [addHL, hsum, State.setHL, State.setFlags]

theorem incPair_eq (p : R16) (s : State) : incPair p s = s.setR16 p (BitVec.ofNat 16 ((s.getR16 p).toNat + 1)) := by
  have hvalue : s.getR16 p + 1 = BitVec.ofNat 16 ((s.getR16 p).toNat + 1) := by simp [BitVec.ofNat_add]
  rw [incPair, hvalue]

/-- R232: modulo 65536, to subtract 1 is to add 65535. -/
theorem decPair_eq (p : R16) (s : State) : decPair p s = s.setR16 p (BitVec.ofNat 16 ((s.getR16 p).toNat + 65535)) := by
  have hvalue : s.getR16 p - 1 = BitVec.ofNat 16 ((s.getR16 p).toNat + 65535) := by bv_omega
  rw [decPair, hvalue]

/-- Settles O32: the fetch leaves `HL`, the pair and `Z` alone, so the three operations compute from those before it. -/
theorem sixteenBitAdditionIncrementDecrement : Obligations.SixteenBitAdditionIncrementDecrement := by
  unfold Obligations.SixteenBitAdditionIncrementDecrement
  intro s p hp rr v hl
  obtain ⟨haddBytes, hincBytes, hdecBytes⟩ := encode_addHlR16_incR16_decR16 hp
  refine ⟨haddBytes, hincBytes, hdecBytes, cycles_addHlR16_incR16_decR16 rr s, ?add, ?inc, ?dec⟩
  case add => rw [exec_addHlR16, complete, addHL_eq, State.fetched_hl, State.fetched_getR16, State.fetched_zf]; rfl
  case inc => rw [exec_incR16, complete, incPair_eq, State.fetched_getR16]
  case dec => rw [exec_decR16, complete, decPair_eq, State.fetched_getR16]

/-! ## SP plus a signed byte (R233, R234) -/

/-- R9: the sign extension of a byte is its signed value modulo 65536. -/
theorem sext16_eq_ofInt_signed8 (e : Byte) : sext16 e = BitVec.ofInt 16 (signed8 e) := by
  have hzext : zext16 e = BitVec.ofInt 16 (e.toNat : Int) := by
    rw [zext16, BitVec.ofInt_natCast, BitVec.ofNat_toNat]
  unfold sext16 signed8
  split
  · exact hzext
  · rw [hzext, Int.sub_eq_add_neg, BitVec.ofInt_add]
    rfl

theorem add_sext16 (w : Word) (e : Byte) : w + sext16 e = BitVec.ofInt 16 ((w.toNat : Int) + signed8 e) := by
  rw [sext16_eq_ofInt_signed8, BitVec.ofInt_add, BitVec.ofInt_natCast, BitVec.ofNat_toNat, BitVec.setWidth_eq]

/-- Settles O33: both operations add the signed value to the `SP` before the fetch; the flags are those of the raw byte. -/
theorem stackPointerPlusDisplacement : Obligations.StackPointerPlusDisplacement := by
  unfold Obligations.StackPointerPlusDisplacement
  intro s e sum flags
  have hsum : (s.fetched 2).sp + sext16 e = sum := by rw [State.fetched_sp, add_sext16]
  have hflags : packF false false (spHalf (s.fetched 2).sp e) (spCarry (s.fetched 2).sp e) = flags := by
    rw [State.fetched_sp]; rfl
  have hadd : addSP e (s.fetched 2) = { s.fetched 2 with sp := sum, f := flags } := by
    rw [addSP, hsum, State.setFlags, hflags]
  have hload : ldHLSP e (s.fetched 2) = { s.fetched 2 with h := hi sum, l := lo sum, f := flags } := by
    rw [ldHLSP, hsum, State.setFlags, hflags, State.setHL]
  exact ⟨rfl, rfl, rfl, rfl, congrArg Host.Outcome.next hadd, congrArg Host.Outcome.next hload⟩

end Sys2Proof.Machine
end

section
/-! SUPPORT. Rotates, shifts and bit operations (spec/44_rotate_shift_bit.md R250 to R265): their values and flags on
unsigned integers, and O34, O35 and O36. -/

namespace Sys2Proof.Machine

/-! ## Two bytes with no bit in common, and one bit of a byte -/

/-- The first byte ends in `k` zeros, and the second has no other bits than those `k`. -/
theorem toNat_or_of_dvd {x y : Byte} (k : Nat) (hx : 2 ^ k ∣ x.toNat) (hy : y.toNat < 2 ^ k) :
    (x ||| y).toNat = x.toNat + y.toNat := by
  obtain ⟨q, hq⟩ := hx
  rw [BitVec.toNat_or, hq, Nat.two_pow_add_eq_or_of_lt hy]

theorem toNat_or_of_disjoint {x y : Byte} (h : x &&& y = 0) : (x ||| y).toNat = x.toNat + y.toNat := by
  rw [← BitVec.add_eq_or_of_and_eq_zero x y h, BitVec.toNat_add_of_and_eq_zero h]

theorem getLsbD_eq_decide (v : Byte) (n : Nat) : v.getLsbD n = decide (v.toNat / 2 ^ n % 2 = 1) := by
  rw [← BitVec.testBit_toNat, Nat.testBit_eq_decide_div_mod_eq]

theorem getLsbD_seven (v : Byte) : v.getLsbD 7 = decide (128 ≤ v.toNat) := by
  rw [getLsbD_eq_decide, decide_eq_decide]
  omega

theorem getLsbD_zero (v : Byte) : v.getLsbD 0 = decide (v.toNat % 2 = 1) := by
  rw [getLsbD_eq_decide, Nat.pow_zero, Nat.div_one]

theorem toNat_one_shiftLeft {b : Nat} (hb : b < 8) : ((1 : Byte) <<< b).toNat = 2 ^ b :=
  BitVec.toNat_twoPow_of_lt hb

/-- Masking with one bit leaves its value at its place. -/
theorem toNat_and_one_shiftLeft {b : Nat} (hb : b < 8) (v : Byte) :
    (v &&& (1 : Byte) <<< b).toNat = v.toNat / 2 ^ b % 2 * 2 ^ b := by
  rw [BitVec.toNat_and, toNat_one_shiftLeft hb, Nat.and_two_pow, Nat.toNat_testBit]

/-! ## The value and the carry on integers (R255 to R262) -/

/-- R255 to R262: the value written back, from the operand and the carry flag as integers. -/
def rotNat (op : RotOp) (v cin : Nat) : Nat :=
  match op with
  | .rlc => 2 * v % 256 + v / 128
  | .rrc => v / 2 + 128 * (v % 2)
  | .rl => 2 * v % 256 + cin
  | .rr => v / 2 + 128 * cin
  | .sla => 2 * v % 256
  | .sra => v / 2 + 128 * (v / 128)
  | .swap => 16 * v % 256 + v / 16
  | .srl => v / 2

/-- R255 to R262: the bit shifted out, bit 7 to the left and bit 0 to the right. -/
def rotOut (op : RotOp) (v : Nat) : Bool :=
  match op with
  | .rlc | .rl | .sla => decide (128 ≤ v)
  | .rrc | .rr | .sra | .srl => decide (v % 2 = 1)
  | .swap => false

theorem rotCarry_eq (op : RotOp) (v : Byte) : rotCarry op v = rotOut op v.toNat := by
  cases op with
  | rlc | rl | sla => exact getLsbD_seven v
  | rrc | rr | sra | srl => exact getLsbD_zero v
  | swap => rfl

theorem toNat_shiftLeft_byte (v : Byte) (k : Nat) : (v <<< k).toNat = 2 ^ k * v.toNat % 256 := by
  rw [BitVec.toNat_shiftLeft, Nat.shiftLeft_eq, Nat.mul_comm]

theorem toNat_ushiftRight_byte (v : Byte) (k : Nat) : (v >>> k).toNat = v.toNat / 2 ^ k := by
  rw [BitVec.toNat_ushiftRight, Nat.shiftRight_eq_div_pow]

/-- A left shift ends in a zero, where the bit `low` comes in. -/
theorem toNat_shiftLeft_or_bit {low : Byte} (hlow : low.toNat < 2) (v : Byte) :
    (v <<< 1 ||| low).toNat = 2 * v.toNat % 256 + low.toNat := by
  have hshift := toNat_shiftLeft_byte v 1
  rw [toNat_or_of_dvd 1 (by omega) hlow, hshift, Nat.pow_one]

/-- A right shift has bit 7 clear, where the bit `high` comes in. -/
theorem toNat_ushiftRight_or_bit {high : Byte} {c : Nat} (hhigh : high.toNat = 128 * c) (v : Byte) :
    (v >>> 1 ||| high).toNat = v.toNat / 2 + 128 * c := by
  have hshift := toNat_ushiftRight_byte v 1
  rw [BitVec.or_comm, toNat_or_of_dvd 7 (by omega) (by omega), hshift, hhigh, Nat.add_comm]
  rfl

theorem toNat_rotValue (op : RotOp) (v : Byte) (cin : Bool) :
    (rotValue op v cin).toNat = rotNat op v.toNat (bit cin) := by
  have hv := v.isLt
  cases op with
  | rlc =>
    have hlow := toNat_ushiftRight_byte v 7
    exact (toNat_shiftLeft_or_bit (by omega) v).trans (by rw [hlow]; rfl)
  | rrc =>
    have hhigh := toNat_shiftLeft_byte v 7
    exact toNat_ushiftRight_or_bit (by omega) v
  | rl => cases cin <;> exact toNat_shiftLeft_or_bit (by decide) v
  | rr => cases cin <;> exact toNat_ushiftRight_or_bit (by decide) v
  | sla => exact toNat_shiftLeft_byte v 1
  | sra =>
    have hhigh : (v &&& 0x80).toNat = v.toNat / 2 ^ 7 % 2 * 2 ^ 7 := toNat_and_one_shiftLeft (by decide : 7 < 8) v
    exact toNat_ushiftRight_or_bit (by omega) v
  | swap =>
    have hhigh := toNat_shiftLeft_byte v 4
    have hlow := toNat_ushiftRight_byte v 4
    exact (toNat_or_of_dvd 4 (by omega) (by omega)).trans (by rw [hhigh, hlow]; rfl)
  | srl => exact toNat_ushiftRight_byte v 1

theorem rotValue_eq (op : RotOp) (v : Byte) (cin : Bool) :
    rotValue op v cin = BitVec.ofNat 8 (rotNat op v.toNat (bit cin)) := by
  rw [← toNat_rotValue, BitVec.ofNat_toNat, BitVec.setWidth_eq]

theorem rotValue_beq_zero (op : RotOp) (v : Byte) (cin : Bool) :
    (rotValue op v cin == 0) = decide (rotNat op v.toNat (bit cin) = 0) := by
  rw [← toNat_rotValue, beq_eq_decide, decide_eq_decide, BitVec.toNat_eq]
  rfl

/-! ## The accumulator rotates (R250 to R253) -/

/-- `Z` is cleared whatever the result, and the operands are those before the fetch. -/
theorem complete_rotA (op : RotOp) (s : State) :
    complete 1 (rotA op) s = .next { s.fetched 1 with
      a := BitVec.ofNat 8 (rotNat op s.a.toNat (bit s.cf)), f := packF false false false (rotOut op s.a.toNat) } := by
  rw [complete, rotA, State.setFlags, State.fetched_a, State.fetched_cf, rotValue_eq, rotCarry_eq]

/-- Settles O34: the four instructions are `rotA`, whose value and carry are those of the shared rotates. -/
theorem accumulatorRotates : Obligations.AccumulatorRotates := by
  unfold Obligations.AccumulatorRotates
  intro s a cin result
  exact ⟨by and_intros <;> rfl, by and_intros <;> rfl, complete_rotA .rlc s, complete_rotA .rrc s, complete_rotA .rl s,
    complete_rotA .rr s⟩

/-! ## The second page: encoding and M-cycles (R115, R254) -/

theorem fields_opcode {x y z : Nat} (hx : x < 4) (hy : y < 8) (hz : z < 8) :
    fieldX (opcode x y z) = x ∧ fieldY (opcode x y z) = y ∧ fieldZ (opcode x y z) = z := by
  simp only [opcode, fieldX, fieldY, fieldZ, BitVec.toNat_ofNat]
  omega

theorem cycles_decodeCb (op2 : Byte) (s : State) : cycles (decodeCb op2) s = cbCycles op2 := by
  rw [cycles, (decodeCb_row op2).1]
  rfl

section
variable {y z : Nat} (hy : y < 8) (hz : z < 8)
include hy hz

/-- The second page has the rotates, `BIT`, `RES` and `SET` in its four quadrants. -/
theorem decodeCb_opcode {x : Nat} (hx : x < 4) :
    decodeCb (opcode x y z) = sel4 x (rotR8 (RotOp.ofIndex y) (R8.ofIndex z)) (bitR8 y (R8.ofIndex z))
      (resR8 y (R8.ofIndex z)) (setR8 y (R8.ofIndex z)) := by
  obtain ⟨hfx, hfy, hfz⟩ := fields_opcode hx hy hz
  rw [decodeCb, hfx, hfy, hfz]
  interval_cases x <;> rfl

theorem cbCycles_opcode {x : Nat} (hx : x < 4) :
    cbCycles (opcode x y z) = if z = 6 then (if x = 1 then 3 else 4) else 2 := by
  obtain ⟨hfx, -, hfz⟩ := fields_opcode hx hy hz
  rw [cbCycles, hfx, hfz]

/-- The bytes and the M-cycles of the instruction in each quadrant. -/
theorem encode_cycles_of_quadrant {x : Nat} (hx : x < 4) {i : Instr}
    (h : sel4 x (rotR8 (RotOp.ofIndex y) (R8.ofIndex z)) (bitR8 y (R8.ofIndex z)) (resR8 y (R8.ofIndex z))
      (setR8 y (R8.ofIndex z)) = i) (s : State) :
    encode i = [0xCB, opcode x y z] ∧ cycles i s = if z = 6 then (if x = 1 then 3 else 4) else 2 := by
  rw [← h, ← decodeCb_opcode hy hz hx, cycles_decodeCb, cbCycles_opcode hy hz hx]
  exact ⟨(decodeCb_row _).1, rfl⟩

end

/-! ## The rotates and shifts of the second page (R255 to R262) -/

/-- The operand and the carry flag are those before the fetch, and `Z` comes from the value written back. -/
theorem exec_rotR8_next (op : RotOp) (o : R8) (s : State) :
    exec (rotR8 op o) s = .next { (s.fetched 2).setR8 o (BitVec.ofNat 8 (rotNat op (s.getR8 o).toNat (bit s.cf))) with
      f := packF (decide (rotNat op (s.getR8 o).toNat (bit s.cf) = 0)) false false (rotOut op (s.getR8 o).toNat) } := by
  rw [exec_rotR8, complete, rotOp, State.setFlags, State.fetched_getR8, State.fetched_cf, rotValue_beq_zero, rotValue_eq,
    rotCarry_eq]

/-- Settles O35: the rotates are the quadrant `x = 0` of the second page, and each computes with `rotNat` and `rotOut`. -/
theorem prefixedRotatesAndShifts : Obligations.PrefixedRotatesAndShifts := by
  unfold Obligations.PrefixedRotatesAndShifts
  intro s z hz o v cin result
  have hexec := fun op => exec_rotR8_next op o s
  refine ⟨fun y hy => ?_, hexec .rlc, hexec .rrc, hexec .rl, hexec .rr, hexec .sla, hexec .sra, hexec .swap, hexec .srl⟩
  have hrow := encode_cycles_of_quadrant hy hz (by decide : 0 < 4) rfl s
  rwa [opcode, Nat.mul_zero, Nat.zero_add] at hrow

/-! ## BIT, RES and SET (R263 to R265) -/

/-- What a mask takes from a byte and what it leaves have no bit in common. -/
theorem and_not_and_mask (v m : Byte) : v &&& ~~~m &&& m = 0 := by
  rw [BitVec.and_assoc, BitVec.not_and_self]
  exact BitVec.and_zero

/-- What a mask takes from a byte and what it leaves are together the byte. -/
theorem toNat_and_not_add_and (v m : Byte) : (v &&& ~~~m).toNat + (v &&& m).toNat = v.toNat := by
  have hdisjoint : v &&& ~~~m &&& (v &&& m) = 0 := by
    rw [BitVec.and_comm v m, ← BitVec.and_assoc, and_not_and_mask]
    exact BitVec.zero_and
  have hunion : v &&& ~~~m ||| v &&& m = v := by
    ext i
    simp [← Bool.and_or_distrib_left]
  rw [← toNat_or_of_disjoint hdisjoint, hunion]

/-- Setting the bits of a mask is adding them where they have been cleared. -/
theorem toNat_or_mask (v m : Byte) : (v ||| m).toNat = (v &&& ~~~m).toNat + m.toNat := by
  have hcleared : v ||| m = v &&& ~~~m ||| m := by
    ext i
    simp [Bool.or_and_distrib_right]
  rw [hcleared, toNat_or_of_disjoint (and_not_and_mask v m)]

/-- R263: the complement of the bit is 1 when the bit of the integer is 0. -/
theorem not_getLsbD_eq_decide (v : Byte) (b : Nat) : (!v.getLsbD b) = decide (v.toNat / 2 ^ b % 2 = 0) := by
  rw [getLsbD_eq_decide, ← decide_not, decide_eq_decide]
  omega

section
variable {b : Nat} (hb : b < 8) (v : Byte)
include hb

/-- A byte is what is left without its bit `b`, and the value of that bit at its place. -/
theorem toNat_and_not_one_shiftLeft : (v &&& ~~~((1 : Byte) <<< b)).toNat + v.toNat / 2 ^ b % 2 * 2 ^ b = v.toNat := by
  rw [← toNat_and_one_shiftLeft hb, toNat_and_not_add_and]

/-- R264: clearing a bit subtracts its value at its place. -/
theorem and_not_one_shiftLeft_eq :
    v &&& ~~~((1 : Byte) <<< b) = BitVec.ofNat 8 (v.toNat - v.toNat / 2 ^ b % 2 * 2 ^ b) := by
  rw [← Nat.eq_sub_of_add_eq (toNat_and_not_one_shiftLeft hb v), BitVec.ofNat_toNat, BitVec.setWidth_eq]

/-- R265: setting a bit adds the complement of it at its place. -/
theorem or_one_shiftLeft_eq :
    v ||| (1 : Byte) <<< b = BitVec.ofNat 8 (v.toNat + (1 - v.toNat / 2 ^ b % 2) * 2 ^ b) := by
  have hres := toNat_and_not_one_shiftLeft hb v
  have hset : (v ||| (1 : Byte) <<< b).toNat = v.toNat + (1 - v.toNat / 2 ^ b % 2) * 2 ^ b := by
    rw [toNat_or_mask, toNat_one_shiftLeft hb]
    rcases Nat.mod_two_eq_zero_or_one (v.toNat / 2 ^ b) with hbit | hbit <;>
    · rw [hbit] at hres ⊢
      omega
  rw [← hset, BitVec.ofNat_toNat, BitVec.setWidth_eq]

end

/-- Settles O36: the three are the other quadrants of the second page, and the operand is the one before the fetch. -/
theorem bitTestResetAndSet : Obligations.BitTestResetAndSet := by
  unfold Obligations.BitTestResetAndSet
  intro s b z hb hz o v
  have hmin : min b 7 = b := Nat.min_eq_left (Nat.le_of_lt_succ hb)
  obtain ⟨hbitBytes, hbitCycles⟩ := encode_cycles_of_quadrant hb hz (by decide : 1 < 4) rfl s
  obtain ⟨hresBytes, hresCycles⟩ := encode_cycles_of_quadrant hb hz (by decide : 2 < 4) rfl s
  obtain ⟨hsetBytes, hsetCycles⟩ := encode_cycles_of_quadrant hb hz (by decide : 3 < 4) rfl s
  refine ⟨⟨hbitBytes, hresBytes, hsetBytes⟩, ⟨hbitCycles, hresCycles, hsetCycles⟩, ?bit, ?res, ?set⟩
  case bit =>
    rw [exec_bitR8, complete, hmin, bitOp, State.fetched_getR8, State.fetched_cf, not_getLsbD_eq_decide]
    rfl
  case res => rw [exec_resR8, complete, hmin, resOp, State.fetched_getR8, and_not_one_shiftLeft_eq hb]
  case set => rw [exec_setR8, complete, hmin, setOp, State.fetched_getR8, or_one_shiftLeft_eq hb]

end Sys2Proof.Machine
end

section
/-! SUPPORT. Control transfer (spec/45_control_flow.md R290 to R301): a conditional operation behind its fetch, the next state
of a call and of a return, their bytes and M-cycles, and O38 to O41. -/

namespace Sys2Proof.Machine

/-! ## The conditions (R290) -/

/-- The condition reads the flags before the fetch; the fetch is of all the bytes, whether or not it holds. -/
theorem complete_when (n : Nat) (cc : Cond) (operation : State → State) (s : State) :
    complete n (when cc operation) s = .next (if s.cond cc then operation (s.fetched n) else s.fetched n) := by
  rw [complete, when, State.fetched_cond]

theorem complete_when_neg {cc : Cond} {s : State} (h : s.cond cc = false) (n : Nat) (operation : State → State) :
    complete n (when cc operation) s = .next (s.fetched n) := by
  rw [complete, when_neg ((State.fetched_cond n s cc).trans h)]

/-- Settles O38: each conditional form completes with its operation under the condition, and without it with the fetch. -/
theorem conditionsReadTheFlags : Obligations.ConditionsReadTheFlags := by
  unfold Obligations.ConditionsReadTheFlags
  intro s cc e nn
  refine ⟨rfl, rfl, rfl, rfl, fun hcond => ⟨?jr, ?jp, ?call, ?ret⟩⟩
  case jr => rw [exec_jrCond, complete_when_neg hcond]
  case jp => rw [exec_jpCond, complete_when_neg hcond]
  case call => rw [exec_callCond, complete_when_neg hcond]
  case ret => rw [exec_retCond, complete_when_neg hcond]

/-! ## Jumps (R291 to R295) -/

/-- R471: the fourth M-cycle is the one of the path taken. -/
theorem cycles_jpCond (cc : Cond) (nn : Word) (s : State) : cycles (jpCond cc nn) s = if s.cond cc then 4 else 3 := by
  cases cc <;> rfl

theorem cycles_jrCond (cc : Cond) (e : Byte) (s : State) : cycles (jrCond cc e) s = if s.cond cc then 3 else 2 := by
  cases cc <;> rfl

/-- R294: from an instruction of two bytes at address `a` the target is `a + 2 + signed8(e)` modulo 65536. -/
theorem jumpRel_target_of_noBug {s : State} (h : s.haltBug = false) (e : Byte) :
    (s.fetched 2).pc + sext16 e = BitVec.ofInt 16 ((s.pc.toNat : Int) + 2 + signed8 e) := by
  have hnext : BitVec.ofInt 16 ((s.pc.toNat : Int) + 2) = (s.fetched 2).pc := by
    rw [State.fetched_of_noBug h, BitVec.ofInt_add, BitVec.ofInt_natCast, BitVec.ofNat_toNat, BitVec.setWidth_eq]
    rfl
  rw [BitVec.ofInt_add, hnext, sext16_eq_ofInt_signed8]

/-- Settles O39: a jump writes `PC` alone, and the relative one adds to the address behind its two bytes. -/
theorem jumpsAbsoluteAndRelative : Obligations.JumpsAbsoluteAndRelative := by
  unfold Obligations.JumpsAbsoluteAndRelative
  intro s cc e nn
  refine ⟨by and_intros <;> rfl, ⟨rfl, rfl, rfl, cycles_jpCond cc nn s, cycles_jrCond cc e s⟩, rfl, ?jpHL, rfl,
    fun hbug => jumpRel_target_of_noBug hbug e, ?jpCond, ?jrCond⟩
  case jpHL =>
    have hHL : (s.fetched 1).hl = join s.h s.l := State.fetched_hl 1 s
    rw [← hHL]
    rfl
  case jpCond => exact (exec_jpCond cc nn s).trans (complete_when 3 cc (jump nn) s)
  case jrCond => exact (exec_jrCond cc e s).trans (complete_when 2 cc (jumpRel e) s)

/-! ## CALL and RST (R296, R297, R301) -/

/-- R296: from an instruction of `k` bytes, the address behind them is stored below `SP`, its high byte first. -/
theorem call_fetched (k : Nat) (target : Word) (s : State) :
    call target (s.fetched k) =
      { ((s.fetched k).write (s.sp - 1) (hi (s.fetched k).pc)).write (s.sp - 2) (lo (s.fetched k).pc) with
        sp := s.sp - 2, pc := target } := by
  have hsp : s.sp - 1 - 1 = s.sp - 2 := by bv_omega
  rw [call, State.callTo, State.push16_eq, State.fetched_sp, hsp]

theorem cycles_callCond (cc : Cond) (nn : Word) (s : State) : cycles (callCond cc nn) s = if s.cond cc then 6 else 3 := by
  cases cc <;> rfl

/-- R301: the column `z = 7` of the quadrant `x = 3`, one row per target. -/
theorem encode_rstTo {y : Nat} (hy : y < 8) : encode (rstTo y) = [BitVec.ofNat 8 (0xC7 + 8 * y)] := by
  interval_cases y <;> rfl

theorem cycles_rstTo {y : Nat} (hy : y < 8) (s : State) : cycles (rstTo y) s = 4 := by
  interval_cases y <;> rfl

/-- Settles O40: each form completes with `call`, the conditional one under its condition. -/
theorem callsAndRestarts : Obligations.CallsAndRestarts := by
  unfold Obligations.CallsAndRestarts
  intro s cc nn y hy called
  have hcall : ∀ k target, call target (s.fetched k) = called k target := fun k target => call_fetched k target s
  refine ⟨⟨rfl, rfl, rfl, rfl, rfl, encode_rstTo hy⟩, ⟨rfl, cycles_callCond cc nn s, cycles_rstTo hy s⟩, ?call, ?callCond,
    ?rst⟩
  case call => exact congrArg Host.Outcome.next (hcall 3 nn)
  case callCond => rw [exec_callCond, complete_when, hcall]
  case rst => rw [exec_rstTo, complete, Nat.min_eq_left (Nat.le_of_lt_succ hy), hcall]

/-! ## RET and RETI (R298 to R300) -/

theorem ret_eq_pop16 (s : State) : ret s = { s.pop16.2 with pc := s.pop16.1 } := rfl

/-- R298: the two bytes at `SP` as they were before the fetch, the low one first. -/
theorem ret_fetched (n : Nat) (s : State) :
    ret (s.fetched n) = { s.fetched n with pc := join (s.read (s.sp + 1)) (s.read s.sp), sp := s.sp + 2 } := by
  have hsp : s.sp + 1 + 1 = s.sp + 2 := by bv_omega
  rw [ret_eq_pop16, State.pop16_fst, State.pop16_snd, State.fetched_sp, State.fetched_read, State.fetched_read, hsp]

theorem cycles_retCond (cc : Cond) (s : State) : cycles (retCond cc) s = if s.cond cc then 5 else 2 := by
  cases cc <;> rfl

/-- Settles O41: each form completes with `ret`, which `RETI` follows with `IME`; what is pending is as it was before. -/
theorem returnsFromCallsAndInterrupts : Obligations.ReturnsFromCallsAndInterrupts := by
  unfold Obligations.ReturnsFromCallsAndInterrupts
  intro s cc returned
  have hret : ret (s.fetched 1) = returned := ret_fetched 1 s
  refine ⟨by and_intros <;> rfl, ⟨rfl, rfl, cycles_retCond cc s⟩, congrArg Host.Outcome.next hret, ?retCond, ?reti,
    ?dispatch⟩
  case retCond => rw [exec_retCond, complete_when, hret]
  case reti =>
    rw [← hret]
    rfl
  case dispatch =>
    have hpending : { returned with ime := true }.pending = s.pending := State.fetched_pending 1 s
    rw [State.dispatchDue, hpending, Bool.true_and]

end Sys2Proof.Machine
end

section
/-! SUPPORT. The system instructions (spec/46_system.md R320 to R324): `HALT` in each of its cases, the fetch behind an armed
halt bug, and O42 and O43. -/

namespace Sys2Proof.Machine

/-! ## NOP, STOP, DI and EI (R320, R322 to R324) -/

theorem nopOp_eq (s : State) : nopOp s = s := rfl

/-- Settles O42: each form completes with its own operation, which tests nothing, behind the fetch of its bytes. -/
theorem nopStopDiEi : Obligations.NopStopDiEi := by
  unfold Obligations.NopStopDiEi
  intro s pad
  refine ⟨by and_intros <;> rfl, by and_intros <;> rfl, ?nop, ?stop, ?di, ?ei⟩
  case nop => exact congrArg Host.Outcome.next (nopOp_eq (s.fetched 1))
  case stop => exact congrArg Host.Outcome.next (stopOp_eq (s.fetched 2))
  case di => exact congrArg Host.Outcome.next (diOp_eq (s.fetched 1))
  case ei => exact congrArg Host.Outcome.next (eiOp_eq (s.fetched 1))

/-! ## HALT (R321) -/

/-- Case A. -/
theorem haltOp_of_noPending {s : State} (h : s.pending = 0) : haltOp s = { s with mode := .halted } := if_pos h

/-- Case B. -/
theorem haltOp_of_pending_masked {s : State} (h : s.pending ≠ 0) (hime : s.ime = false) :
    haltOp s = { s with haltBug := true } := by
  rw [haltOp, if_neg h, if_neg (ne_true_of_eq_false hime)]

/-- Case C. -/
theorem haltOp_of_pending_enabled {s : State} (h : s.pending ≠ 0) (hime : s.ime = true) : haltOp s = s := by
  rw [haltOp, if_neg h, if_pos hime]

/-- R12: a fetch with the bug just armed reads the byte at `PC`, and the state behind it is the one before the arming. -/
theorem State.fetch8_of_armed {s : State} (h : s.haltBug = false) :
    ({ s with haltBug := true } : State).fetch8 = (s.read s.pc, s) := by
  have hclear : ({ s with haltBug := false } : State) = s := by rw [← h]
  rw [State.fetch8_of_bug rfl, State.read_congr (s := s) rfl rfl rfl rfl]
  exact congrArg (Prod.mk _) hclear

/-- Settles O43: the fetch keeps what is pending and `IME`, so `HALT` decides its case on the state before it. -/
theorem haltInItsThreeCases : Obligations.HaltInItsThreeCases := by
  unfold Obligations.HaltInItsThreeCases
  intro s
  have hexec : exec .halt s = .next (haltOp (s.fetched 1)) := rfl
  have hpending : (s.fetched 1).pending = s.ie.setWidth 5 &&& s.iflag := State.fetched_pending 1 s
  have hime : (s.fetched 1).ime = s.ime := State.fetched_ime 1 s
  rw [hexec, ← hpending, ← hime]
  refine ⟨rfl, rfl, fun hnone => ?halts, fun hsome hmasked => ⟨?armsBug, ?readsTwice⟩,
    fun hsome henabled => ⟨?doesNothing, ?dispatches⟩⟩
  case halts => rw [haltOp_of_noPending hnone]
  case armsBug => rw [haltOp_of_pending_masked hsome hmasked]
  case readsTwice => rw [State.fetch8_of_armed (State.fetched_haltBug s 0), State.fetched_read]
  case doesNothing => rw [haltOp_of_pending_enabled hsome henabled]
  case dispatches => rw [State.dispatchDue, henabled, Bool.true_and, decide_eq_true hsome]

end Sys2Proof.Machine
end

section
/-! SUPPORT. Slices of a byte list: one byte, consecutive slices, and a list of parts cut again at the sizes of its parts. -/

namespace Sys2Proof.Machine

/-! ## One slice -/

theorem length_slice {l : List Byte} {off len : Nat} (h : off + len ≤ l.length) : (slice l off len).length = len := by
  rw [slice, List.length_take, List.length_drop]
  omega

theorem getD_slice (l : List Byte) (off : Nat) {len i : Nat} (hi : i < len) :
    (slice l off len).getD i 0 = l.getD (off + i) 0 := by
  rw [slice, List.getD_eq_getElem?_getD, List.getD_eq_getElem?_getD, List.getElem?_take_of_lt hi, List.getElem?_drop]

/-- A byte inside a slice, by its place in the whole list. -/
theorem getD_of_slice {l part : List Byte} {off len n : Nat} (h : slice l off len = part) (h1 : off ≤ n)
    (h2 : n < off + len) : l.getD n 0 = part.getD (n - off) 0 := by
  rw [← h, getD_slice l off (by omega), Nat.add_sub_cancel' h1]

theorem slice_zero_length (l : List Byte) : slice l 0 l.length = l := List.take_length

theorem slice_slice (l : List Byte) (off : Nat) {len o n : Nat} (h : o + n ≤ len) :
    slice (slice l off len) o n = slice l (off + o) n := by
  simp only [slice, List.drop_take, List.take_take, List.drop_drop]
  rw [Nat.min_eq_left (by omega)]

theorem take_slice (l : List Byte) (off : Nat) {len n : Nat} (h : n ≤ len) :
    (slice l off len).take n = slice l off n := by
  rw [slice, List.take_take, Nat.min_eq_left h]
  rfl

theorem getD_take (l : List Byte) {n i : Nat} (h : i < n) : (l.take n).getD i 0 = l.getD i 0 := by
  rw [List.getD_eq_getElem?_getD, List.getD_eq_getElem?_getD, List.getElem?_take_of_lt h]

theorem getD_drop (l : List Byte) (n i : Nat) : (l.drop n).getD i 0 = l.getD (n + i) 0 := by
  rw [List.getD_eq_getElem?_getD, List.getD_eq_getElem?_getD, List.getElem?_drop]

theorem slice_append_slice (l : List Byte) (off m n : Nat) :
    slice l off m ++ slice l (off + m) n = slice l off (m + n) := by
  simp only [slice, List.take_add, List.drop_drop]

/-- Byte lists of one length are equal where they read alike. -/
theorem ext_getD {k l : List Byte} (hlen : k.length = l.length) (h : ∀ i, i < l.length → k.getD i 0 = l.getD i 0) :
    k = l := by
  refine List.ext_getElem hlen fun i hk hl => ?_
  have hi := h i hl
  rwa [List.getD_eq_getElem _ _ hk, List.getD_eq_getElem _ _ hl] at hi

theorem slice_eq_replicate_iff {l : List Byte} {off len : Nat} (h : off + len ≤ l.length) (v : Byte) :
    slice l off len = List.replicate len v ↔ ∀ n, off ≤ n → n < off + len → l.getD n 0 = v := by
  constructor
  · intro heq n h1 h2
    rw [getD_of_slice heq h1 h2, List.getD_replicate _ (by omega)]
  · intro hall
    refine ext_getD (by rw [length_slice h, List.length_replicate]) fun i hi => ?_
    rw [List.length_replicate] at hi
    rw [getD_slice l off hi, hall (off + i) (by omega) (by omega), List.getD_replicate _ hi]

theorem slice_eq_slice_iff {l : List Byte} {off off' len : Nat} (h : off + len ≤ l.length) (h' : off' + len ≤ l.length) :
    slice l off len = slice l off' len ↔ ∀ n, off ≤ n → n < off + len → l.getD n 0 = l.getD (off' + (n - off)) 0 := by
  constructor
  · intro heq n h1 h2
    rw [getD_of_slice heq h1 h2, getD_slice l off' (by omega)]
  · intro hall
    refine ext_getD (by rw [length_slice h, length_slice h']) fun i hi => ?_
    rw [length_slice h'] at hi
    rw [getD_slice l off hi, getD_slice l off' hi, hall (off + i) (by omega) (by omega), Nat.add_sub_cancel_left]

/-- A slice is its bytes, one by one. -/
theorem slice_eq_map_getD {l : List Byte} {off len : Nat} (h : off + len ≤ l.length) :
    slice l off len = (List.range len).map fun i => l.getD (off + i) 0 := by
  refine ext_getD (by rw [length_slice h, List.length_map, List.length_range]) fun i hi => ?_
  rw [List.length_map, List.length_range] at hi
  rw [getD_slice l off hi]
  simp [hi]

theorem slice_one {l : List Byte} {off : Nat} (h : off < l.length) : slice l off 1 = [l.getD off 0] :=
  slice_eq_map_getD h

/-! ## Consecutive slices -/

/-- The consecutive slices from `off` on, of the sizes listed. -/
def slices (l : List Byte) (off : Nat) : List Nat → List (List Byte)
  | [] => []
  | n :: ns => slice l off n :: slices l (off + n) ns

theorem flatten_slices (l : List Byte) (off : Nat) (sizes : List Nat) :
    (slices l off sizes).flatten = slice l off sizes.sum := by
  induction sizes generalizing off with
  | nil => rfl
  | cons n ns ih => rw [slices, List.flatten_cons, ih, List.sum_cons, slice_append_slice]

theorem slices_append_flatten (front : List Byte) (parts : List (List Byte)) :
    slices (front ++ parts.flatten) front.length (parts.map List.length) = parts := by
  induction parts generalizing front with
  | nil => rfl
  | cons p ps ih =>
    have hrest := ih (front ++ p)
    rw [List.append_assoc, List.length_append] at hrest
    rw [List.map_cons, slices, List.flatten_cons, hrest, slice_mid rfl rfl]

/-- A list is made of the parts exactly if its slices are the parts. -/
theorem flatten_eq_iff_slices {l : List Byte} {parts : List (List Byte)} {sizes : List Nat}
    (hsizes : parts.map List.length = sizes) (hlen : l.length = sizes.sum) :
    parts.flatten = l ↔ slices l 0 sizes = parts := by
  constructor
  · rintro rfl
    rw [← hsizes]
    exact slices_append_flatten [] parts
  · intro h
    rw [← h, flatten_slices, ← hlen, slice_zero_length]

end Sys2Proof.Machine
end

section
/-! SUPPORT. The snapshot codec (spec/47_snapshot_codec.md R342 to R348): what stands where in a snapshot, what the decoder
checks and builds, and O56, O57, O58 and O59. -/

namespace Sys2Proof.Machine

/-! ## The parts of the memory image (R344) -/

/-- R344: the sizes of the parts of the image, in address order. -/
def imageSizes : List Nat := [0x8000, 0x2000, 0x2000, 0x2000, 0x1E00, 0xA0, 0x60, 0x0F, 1, 0x70, 0x7F, 1]

/-- `img` holds what the image of `s` holds, part by part. -/
structure ImageHolds (s : State) (img : List Byte) : Prop where
  rom : slice img 0 0x8000 = s.mem.bytes .rom
  vram : slice img 0x8000 0x2000 = s.mem.bytes .vram
  cartRam : slice img 0xA000 0x2000 = List.replicate 0x2000 Config.openBus
  wram : slice img 0xC000 0x2000 = s.mem.bytes .wram
  echo : slice img 0xE000 0x1E00 = (s.mem.bytes .wram).take 0x1E00
  oam : slice img 0xFE00 0xA0 = s.mem.bytes .oam
  gap : slice img 0xFEA0 0x60 = List.replicate 0x60 Config.openBus
  ioLow : slice img 0xFF00 0x0F = (s.mem.bytes .io).take 0x0F
  ifReg : slice img 0xFF0F 1 = [s.ifByte]
  ioHigh : slice img 0xFF10 0x70 = (s.mem.bytes .io).drop 0x10
  hram : slice img 0xFF80 0x7F = s.mem.bytes .hram
  ieReg : slice img 0xFFFF 1 = [s.ie]

/-- The parts of the image of a state, in address order. -/
def State.imageParts (s : State) : List (List Byte) :=
  [s.mem.bytes .rom, s.mem.bytes .vram, List.replicate 0x2000 Config.openBus, s.mem.bytes .wram,
    (s.mem.bytes .wram).take 0x1E00, s.mem.bytes .oam, List.replicate 0x60 Config.openBus, (s.mem.bytes .io).take 0x0F,
    [s.ifByte], (s.mem.bytes .io).drop 0x10, s.mem.bytes .hram, [s.ie]]

theorem State.flatten_imageParts (s : State) : s.imageParts.flatten = s.image := by
  simp only [State.imageParts, State.image, List.flatten_cons, List.flatten_nil, List.append_nil, List.append_assoc]

theorem State.imageParts_sizes (s : State) : s.imageParts.map List.length = imageSizes := by
  simp only [State.imageParts, List.map_cons, List.map_nil, List.length_replicate, List.length_take, List.length_drop,
    Memory.bytes_length, List.length_cons, List.length_nil]
  decide

/-- A list of 65536 bytes is the image of a state exactly if it holds what the image holds. -/
theorem State.image_eq_iff {s : State} {img : List Byte} (hlen : img.length = 0x10000) :
    s.image = img ↔ ImageHolds s img := by
  rw [← s.flatten_imageParts, flatten_eq_iff_slices s.imageParts_sizes hlen]
  simp only [slices, imageSizes, State.imageParts, List.cons.injEq, and_true, Nat.reduceAdd]
  constructor
  · rintro ⟨rom, vram, cartRam, wram, echo, oam, gap, ioLow, ifReg, ioHigh, hram, ieReg⟩
    exact { rom, vram, cartRam, wram, echo, oam, gap, ioLow, ifReg, ioHigh, hram, ieReg }
  · rintro ⟨rom, vram, cartRam, wram, echo, oam, gap, ioLow, ifReg, ioHigh, hram, ieReg⟩
    exact ⟨rom, vram, cartRam, wram, echo, oam, gap, ioLow, ifReg, ioHigh, hram, ieReg⟩

theorem State.image_holds (s : State) : ImageHolds s s.image := (State.image_eq_iff s.image_length).1 rfl

/-! ## The three parts of a snapshot (R342) -/

/-- A list of 65807 bytes is the snapshot of a state exactly if its three parts are. -/
theorem encodeSnapshot_eq_iff {s : State} {bs : List Byte} (hlen : bs.length = 65807) :
    encodeSnapshot s = bs ↔
      slice bs 0 15 = s.header ∧ slice bs 15 0x10000 = s.image ∧ slice bs 65551 256 = s.mem.bytes .boot := by
  have hparts : [s.header, s.image, s.mem.bytes .boot].flatten = encodeSnapshot s := by
    simp only [encodeSnapshot, List.flatten_cons, List.flatten_nil, List.append_nil, List.append_assoc]
  have hsizes : [s.header, s.image, s.mem.bytes .boot].map List.length = [15, 0x10000, 256] := by
    simp [State.header, State.image_length, Region.size]
  rw [← hparts, flatten_eq_iff_slices hsizes hlen]
  simp only [slices, List.cons.injEq, and_true, Nat.reduceAdd]

theorem encodeSnapshot_length (s : State) : (encodeSnapshot s).length = 65807 := by
  simp [encodeSnapshot, State.header, State.image_length, Region.size]

theorem slice_encodeSnapshot_image (s : State) : slice (encodeSnapshot s) 15 0x10000 = s.image :=
  ((encodeSnapshot_eq_iff (encodeSnapshot_length s)).1 rfl).2.1

theorem slice_encodeSnapshot_boot (s : State) : slice (encodeSnapshot s) 65551 256 = s.mem.bytes .boot :=
  ((encodeSnapshot_eq_iff (encodeSnapshot_length s)).1 rfl).2.2

/-! ## The mode byte (R343) -/

@[simp] theorem Mode.ofCode_code (m : Mode) : Mode.ofCode m.code = m := by cases m <;> rfl

theorem State.modeByte_fields (s : State) :
    s.modeByte.toNat % 4 = s.mode.code ∧ s.modeByte.getLsbD 2 = s.ime ∧ s.modeByte.getLsbD 3 = s.imePending ∧
      s.modeByte.getLsbD 4 = s.haltBug ∧ s.modeByte.getLsbD 5 = s.bootMapped ∧ s.modeByte &&& 0xC0 = 0 := by
  unfold State.modeByte
  cases s.mode <;> cases s.ime <;> cases s.imePending <;> cases s.haltBug <;> cases s.bootMapped <;> decide

/-- The state that the fields of `v` name has the mode byte `v`. -/
theorem State.modeByte_eq {s : State} {v : Byte} (hmode : v.toNat % 4 ≠ 3) (hhigh : v &&& 0xC0 = 0)
    (hm : s.mode = Mode.ofCode (v.toNat % 4)) (hime : s.ime = v.getLsbD 2) (hip : s.imePending = v.getLsbD 3)
    (hbug : s.haltBug = v.getLsbD 4) (hboot : s.bootMapped = v.getLsbD 5) : s.modeByte = v := by
  have key : ∀ v : Byte, v.toNat % 4 ≠ 3 → v &&& 0xC0 = 0 →
      BitVec.ofNat 8 ((Mode.ofCode (v.toNat % 4)).code + 4 * bit (v.getLsbD 2) + 8 * bit (v.getLsbD 3) +
        16 * bit (v.getLsbD 4) + 32 * bit (v.getLsbD 5)) = v := by decide
  rw [State.modeByte, hm, hime, hip, hbug, hboot]
  exact key v hmode hhigh

/-! ## The arrays the decoder builds (R346) -/

theorem Memory.ext_bank {m m' : Memory} (h : ∀ r, m.bank r = m'.bank r) : m = m' := by
  obtain ⟨rom, boot, vram, wram, oam, io, hram⟩ := m
  obtain ⟨rom', boot', vram', wram', oam', io', hram'⟩ := m'
  simp only [Memory.mk.injEq]
  exact ⟨h .rom, h .boot, h .vram, h .wram, h .oam, h .io, h .hram⟩

theorem Memory.getD_bytes (m : Memory) {r : Region} {i : Nat} (hi : i < r.size) : (m.bytes r).getD i 0 = m.get r i :=
  Cells.getD_bytes hi

theorem Cells.ofBytes_append (dflt : Byte) (lo : Nat) (xs ys : List Byte) :
    Cells.ofBytes dflt lo (xs ++ ys) = Cells.ofBytes dflt lo xs ++ Cells.ofBytes dflt (lo + xs.length) ys := by
  induction xs generalizing lo with
  | nil => rfl
  | cons x xs ih =>
    have hlo : lo + (x :: xs).length = lo + 1 + xs.length := by rw [List.length_cons]; omega
    rw [hlo, List.cons_append, Cells.ofBytes, Cells.ofBytes, ih]
    split <;> rfl

/-- The bytes an array is decoded from: those of its window of the image, with the default for the index 0x0F that `io` does
not have (log 11), and for the boot ROM those behind the image. -/
def imageBytes (img boot : List Byte) : Region → List Byte
  | .rom => slice img 0 0x8000
  | .boot => boot
  | .vram => slice img 0x8000 0x2000
  | .wram => slice img 0xC000 0x2000
  | .oam => slice img 0xFE00 0xA0
  | .io => slice img 0xFF00 0x0F ++ Region.dflt .io :: slice img 0xFF10 0x70
  | .hram => slice img 0xFF80 0x7F

/-- The bytes of an array of a state, in its own image. -/
theorem imageBytes_of_holds {s : State} (hm : s.memWf) {img : List Byte} (h : ImageHolds s img) (r : Region) :
    imageBytes img (s.mem.bytes .boot) r = s.mem.bytes r := by
  cases r with
  | io =>
    have hlen : 0x0F < (s.mem.bytes .io).length := by rw [Memory.bytes_length]; decide
    have hhole : Region.dflt .io = (s.mem.bytes .io)[0x0F] := by
      rw [← Memory.get_io_hole hm, ← s.mem.getD_bytes (by decide), List.getD_eq_getElem _ _ hlen]
    rw [imageBytes, h.ioLow, h.ioHigh, hhole, ← List.drop_eq_getElem_cons hlen, List.take_append_drop]
  | boot => rfl
  | rom => exact h.rom
  | vram => exact h.vram
  | wram => exact h.wram
  | oam => exact h.oam
  | hram => exact h.hram

section
variable {img boot : List Byte} (himg : img.length = 0x10000)
include himg

theorem memoryOfImage_bank (r : Region) :
    (memoryOfImage img boot).bank r = Cells.ofBytes r.dflt 0 (imageBytes img boot r) := by
  cases r with
  | io =>
    rw [imageBytes, Cells.ofBytes_append, length_slice (by omega), Cells.ofBytes, if_pos rfl]
    rfl
  | _ => rfl

variable (hboot : boot.length = 256)
include hboot

theorem imageBytes_length (r : Region) : (imageBytes img boot r).length = r.size := by
  cases r with
  | boot => exact hboot
  | io =>
    rw [imageBytes, List.length_append, List.length_cons, length_slice (by omega), length_slice (by omega)]
    rfl
  | _ => exact length_slice (by omega)

/-- The bytes of a decoded array are those it was decoded from. -/
theorem memoryOfImage_bytes (r : Region) : (memoryOfImage img boot).bytes r = imageBytes img boot r := by
  rw [Memory.bytes, memoryOfImage_bank himg, ← imageBytes_length himg hboot r]
  exact Cells.bytes_ofBytes

/-- Decoded arrays are in canonical form. -/
theorem memoryOfImage_wf : (memoryOfImage img boot).wf = true := by
  refine (Memory.wf_iff _).2 fun r => ?_
  rw [Memory.bankWf, Bool.and_eq_true, Bool.or_eq_true, beq_iff_eq]
  constructor
  · rw [memoryOfImage_bank himg]
    exact Cells.wfFrom_ofBytes (by rw [Nat.zero_add, imageBytes_length himg hboot])
  · right
    rw [Memory.get, memoryOfImage_bank himg, Cells.get_ofBytes (Nat.zero_le _), imageBytes]
    have hlow : (slice img 0xFF00 0x0F).length = 0x0F := length_slice (by omega)
    exact getD_mid hlow
end

/-- The arrays of a state, decoded from its own image. -/
theorem memoryOfImage_image {s : State} (hm : s.memWf) : memoryOfImage s.image (s.mem.bytes .boot) = s.mem :=
  Memory.ext_bank fun r => by
    rw [memoryOfImage_bank s.image_length, imageBytes_of_holds hm s.image_holds]
    exact Cells.ofBytes_bytes (Memory.wfFrom_bank hm r)

/-! ## The nine checks (R347) -/

/-- A byte list passes the nine checks. -/
structure Accepted (bs : List Byte) : Prop where
  length : bs.length = 65807
  flags : bs.getD 11 0 &&& 0x0F = 0
  mode : (bs.getD 14 0).toNat % 4 ≠ 3
  modeHigh : bs.getD 14 0 &&& 0xC0 = 0
  ifHigh : bs.getD 13 0 &&& 0xE0 = 0xE0
  ifCopy : bs.getD (15 + 0xFF0F) 0 = bs.getD 13 0
  ieCopy : bs.getD (15 + 0xFFFF) 0 = bs.getD 12 0
  cartRam : slice bs (15 + 0xA000) 0x2000 = List.replicate 0x2000 Config.openBus
  gap : slice bs (15 + 0xFEA0) 0x60 = List.replicate 0x60 Config.openBus
  echo : slice bs (15 + 0xE000) 0x1E00 = slice bs (15 + 0xC000) 0x1E00

/-- Bits 1:0 of the mode byte are its remainder modulo 4. -/
theorem and_three_ne_three_iff : ∀ v : Byte, v &&& 0x03 ≠ 3 ↔ v.toNat % 4 ≠ 3 := by decide

theorem snapshotOk_iff (bs : List Byte) : snapshotOk bs = true ↔ Accepted bs := by
  simp only [snapshotOk, Bool.and_eq_true, decide_eq_true_eq, beq_iff_eq, bne_iff_ne, and_three_ne_three_iff,
    getD_slice bs 15 (show 0xFF0F < 0x10000 by decide),
    getD_slice bs 15 (show 0xFFFF < 0x10000 by decide), slice_slice bs 15 (show 0xA000 + 0x2000 ≤ 0x10000 by decide),
    slice_slice bs 15 (show 0xFEA0 + 0x60 ≤ 0x10000 by decide),
    slice_slice bs 15 (show 0xE000 + 0x1E00 ≤ 0x10000 by decide),
    slice_slice bs 15 (show 0xC000 + 0x1E00 ≤ 0x10000 by decide)]
  constructor
  · rintro ⟨⟨⟨⟨⟨⟨⟨⟨⟨length, flags⟩, mode⟩, modeHigh⟩, ifHigh⟩, ifCopy⟩, ieCopy⟩, cartRam⟩, gap⟩, echo⟩
    exact { length, flags, mode, modeHigh, ifHigh, ifCopy, ieCopy, cartRam, gap, echo }
  · rintro ⟨length, flags, mode, modeHigh, ifHigh, ifCopy, ieCopy, cartRam, gap, echo⟩
    exact ⟨⟨⟨⟨⟨⟨⟨⟨⟨length, flags⟩, mode⟩, modeHigh⟩, ifHigh⟩, ifCopy⟩, ieCopy⟩, cartRam⟩, gap⟩, echo⟩

theorem decodeSnapshot_ok_iff {bs : List Byte} {s : State} :
    decodeSnapshot bs = .ok s ↔ Accepted bs ∧ stateOfSnapshot bs = s := by
  rw [← snapshotOk_iff, decodeSnapshot]
  split <;> simp [*]

theorem decodeSnapshot_error_iff {bs : List Byte} :
    decodeSnapshot bs = .error .corruptSnapshot ↔ ¬ Accepted bs := by
  rw [← snapshotOk_iff, decodeSnapshot]
  split <;> simp [*]

/-! ## O56 -/

theorem ifByte_high (s : State) : s.ifByte &&& 0xE0 = 0xE0 := by
  have key : ∀ v : BitVec 5, (0xE0 ||| v.setWidth 8 : Byte) &&& 0xE0 = 0xE0 := by decide
  exact key s.iflag

theorem ifByte_setWidth (s : State) : s.ifByte.setWidth 5 = s.iflag := by
  have key : ∀ v : BitVec 5, (0xE0 ||| v.setWidth 8 : Byte).setWidth 5 = v := by decide
  exact key s.iflag

theorem Mode.code_ne_three (m : Mode) : m.code ≠ 3 := by cases m <;> decide

/-- The snapshot of a state with clean flags passes the checks. -/
theorem encodeSnapshot_accepted {s : State} (hf : s.flagsClean) : Accepted (encodeSnapshot s) := by
  obtain ⟨hmode, -, -, -, -, hhigh⟩ := s.modeByte_fields
  obtain ⟨hif, hie⟩ := s.image_registers
  obtain ⟨hcart, hgap⟩ := s.image_open_bus
  have hecho := s.image_echo
  rw [← slice_encodeSnapshot_image, getD_slice _ _ (by decide)] at hif hie
  rw [← slice_encodeSnapshot_image, slice_slice _ _ (by decide)] at hcart hgap
  rw [← slice_encodeSnapshot_image, slice_slice _ _ (by decide), slice_slice _ _ (by decide)] at hecho
  exact {
    length := encodeSnapshot_length s
    flags := hf
    mode := fun h => s.mode.code_ne_three (hmode.symm.trans h)
    modeHigh := hhigh
    ifHigh := ifByte_high s
    ifCopy := hif
    ieCopy := hie
    cartRam := hcart
    gap := hgap
    echo := hecho }

theorem stateOfSnapshot_encodeSnapshot {s : State} (hm : s.memWf) :
    stateOfSnapshot (encodeSnapshot s) = { s with inputs := [] } := by
  obtain ⟨hmode, hime, hip, hbug, hboot, -⟩ := s.modeByte_fields
  rw [stateOfSnapshot, slice_encodeSnapshot_image, slice_encodeSnapshot_boot, memoryOfImage_image hm]
  have h14 : (encodeSnapshot s).getD 14 0 = s.modeByte := rfl
  have h13 : (encodeSnapshot s).getD 13 0 = s.ifByte := rfl
  rw [h14, h13, hmode, hime, hip, hbug, hboot, ifByte_setWidth, Mode.ofCode_code]
  have hsp : join ((encodeSnapshot s).getD 8 0) ((encodeSnapshot s).getD 7 0) = s.sp := join_hi_lo s.sp
  have hpc : join ((encodeSnapshot s).getD 10 0) ((encodeSnapshot s).getD 9 0) = s.pc := join_hi_lo s.pc
  rw [hsp, hpc]
  rfl

/-- Settles O56: the snapshot passes the checks, and every field is read back from the bytes it was written to. -/
theorem snapshotOfAStateDecodesToIt : Obligations.SnapshotOfAStateDecodesToIt := by
  unfold Obligations.SnapshotOfAStateDecodesToIt
  intro s hf hm
  exact decodeSnapshot_ok_iff.2 ⟨encodeSnapshot_accepted hf, stateOfSnapshot_encodeSnapshot hm⟩

/-! ## O57 -/

section
variable {bs : List Byte} (h : Accepted bs)
include h

theorem stateOfSnapshot_ifByte : (stateOfSnapshot bs).ifByte = bs.getD 13 0 := by
  have key : ∀ v : Byte, v &&& 0xE0 = 0xE0 → 0xE0 ||| (v.setWidth 5).setWidth 8 = v := by decide
  exact key _ h.ifHigh

theorem stateOfSnapshot_header : slice bs 0 15 = (stateOfSnapshot bs).header := by
  have hlen := h.length
  have hmode : (stateOfSnapshot bs).modeByte = bs.getD 14 0 :=
    State.modeByte_eq h.mode h.modeHigh rfl rfl rfl rfl rfl
  have hsp : (stateOfSnapshot bs).sp = join (bs.getD 8 0) (bs.getD 7 0) := rfl
  have hpc : (stateOfSnapshot bs).pc = join (bs.getD 10 0) (bs.getD 9 0) := rfl
  rw [slice_eq_map_getD (by omega), State.header, stateOfSnapshot_ifByte h, hmode, hsp, hpc, hi_join, lo_join, hi_join,
    lo_join]
  simp only [Nat.zero_add]
  rfl

theorem length_slice_image : (slice bs 15 0x10000).length = 0x10000 :=
  length_slice (by rw [h.length]; decide)

theorem length_slice_boot : (slice bs 65551 256).length = 256 :=
  length_slice (by rw [h.length])

theorem stateOfSnapshot_bytes (r : Region) :
    (stateOfSnapshot bs).mem.bytes r = imageBytes (slice bs 15 0x10000) (slice bs 65551 256) r :=
  memoryOfImage_bytes (length_slice_image h) (length_slice_boot h) r

/-- The image of the decoded state is the image it was decoded from. -/
theorem stateOfSnapshot_image : (stateOfSnapshot bs).image = slice bs 15 0x10000 := by
  have hlen := length_slice_image h
  refine (State.image_eq_iff hlen).2 ?_
  constructor
  case rom => exact (stateOfSnapshot_bytes h .rom).symm
  case vram => exact (stateOfSnapshot_bytes h .vram).symm
  case wram => exact (stateOfSnapshot_bytes h .wram).symm
  case oam => exact (stateOfSnapshot_bytes h .oam).symm
  case hram => exact (stateOfSnapshot_bytes h .hram).symm
  case cartRam => exact (slice_slice bs 15 (by decide)).trans h.cartRam
  case gap => exact (slice_slice bs 15 (by decide)).trans h.gap
  case echo =>
    rw [stateOfSnapshot_bytes h, imageBytes, take_slice _ _ (by decide), slice_slice _ _ (by decide),
      slice_slice _ _ (by decide)]
    exact h.echo
  case ioLow =>
    rw [stateOfSnapshot_bytes h, imageBytes, List.take_left' (length_slice (by omega))]
  case ioHigh =>
    rw [stateOfSnapshot_bytes h, imageBytes, List.append_cons,
      List.drop_left' (by rw [List.length_append, length_slice (by omega)]; rfl)]
  case ifReg =>
    rw [slice_one (by omega), getD_slice _ _ (by decide), stateOfSnapshot_ifByte h]
    exact congrArg (fun v => [v]) h.ifCopy
  case ieReg =>
    rw [slice_one (by omega), getD_slice _ _ (by decide)]
    exact congrArg (fun v => [v]) h.ieCopy

theorem encodeSnapshot_stateOfSnapshot : encodeSnapshot (stateOfSnapshot bs) = bs :=
  (encodeSnapshot_eq_iff h.length).2
    ⟨stateOfSnapshot_header h, (stateOfSnapshot_image h).symm, (stateOfSnapshot_bytes h .boot).symm⟩
end

/-- Settles O57: the three parts of the decoded state's snapshot are the three parts of what was decoded. -/
theorem acceptedSnapshotEncodesBack : Obligations.AcceptedSnapshotEncodesBack := by
  unfold Obligations.AcceptedSnapshotEncodesBack
  intro bs s hdec
  obtain ⟨h, rfl⟩ := decodeSnapshot_ok_iff.1 hdec
  exact ⟨encodeSnapshot_stateOfSnapshot h, h.flags, memoryOfImage_wf (length_slice_image h) (length_slice_boot h), rfl⟩

/-! ## O58 -/

/-- A byte of an array that the image and the bus both hold at one address. -/
theorem State.getD_image_of_cell {s : State} {a : Word} {r : Region} {i off len : Nat} {part : List Byte}
    (hown : s.owner a = .cell r i) (hslice : slice s.image off len = part) (h1 : off ≤ a.toNat)
    (h2 : a.toNat < off + len) (hpart : part.getD (a.toNat - off) 0 = (s.mem.bytes r).getD i 0) :
    s.image.getD a.toNat 0 = s.read a := by
  rw [State.read_of_cell hown, getD_of_slice hslice h1 h2, hpart, s.mem.getD_bytes (ownerOf_cell hown).1]

theorem State.getD_image_openBus {s : State} {a : Word} {off len : Nat} (hown : s.owner a = .unmapped)
    (hslice : slice s.image off len = List.replicate len Config.openBus) (h1 : off ≤ a.toNat)
    (h2 : a.toNat < off + len) : s.image.getD a.toNat 0 = s.read a := by
  rw [(State.bus_of_unmapped hown 0).1, getD_of_slice hslice h1 h2, List.getD_replicate _ (by omega)]
  rfl

/-- Behind the hole at 0xFF0F the image holds `io` from index 0x10 on. -/
theorem State.getD_image_ioHigh (s : State) {n : Nat} (h1 : 0xFF10 ≤ n) (h2 : n < 0xFF80) :
    s.image.getD n 0 = s.mem.get .io (n - 0xFF00) := by
  have hi : n - 0xFF00 < Region.size .io := by simp only [Region.size]; omega
  rw [getD_of_slice s.image_holds.ioHigh h1 h2, getD_drop, show 0x10 + (n - 0xFF10) = n - 0xFF00 by omega,
    s.mem.getD_bytes hi]

/-- From 0x8000 up the image holds what the bus reads (R344). -/
theorem State.getD_image (s : State) {a : Word} (h : 0x8000 ≤ a.toNat) : s.image.getD a.toNat 0 = s.read a := by
  have hp := s.image_holds
  generalize hn : a.toNat = n at h
  induction n using address_rows with
  | overlay n h1 => omega
  | rom n h1 h2 => omega
  | vram n h1 h2 =>
    subst hn
    exact getD_image_of_cell (ownerOf_vram _ h1 h2) hp.vram h1 h2 rfl
  | cartRam n h1 h2 =>
    subst hn
    exact getD_image_openBus (ownerOf_cartRam _ h1 h2) hp.cartRam h1 h2
  | wram n h1 h2 =>
    subst hn
    exact getD_image_of_cell (ownerOf_wram _ h1 h2) hp.wram h1 h2 rfl
  | echo n h1 h2 =>
    subst hn
    exact getD_image_of_cell (ownerOf_echo _ h1 h2) hp.echo h1 h2 (getD_take _ (by omega))
  | oam n h1 h2 =>
    subst hn
    exact getD_image_of_cell (ownerOf_oam _ h1 h2) hp.oam h1 h2 rfl
  | gap n h1 h2 =>
    subst hn
    exact getD_image_openBus (ownerOf_gap _ h1 h2) hp.gap h1 h2
  | ioLow n h1 h2 =>
    subst hn
    exact getD_image_of_cell (ownerOf_ioLow _ h1 h2) hp.ioLow h1 h2 (getD_take _ (by omega))
  | ifReg n h1 =>
    rw [h1, s.image_registers.1, (State.bus_of_ifReg (ownerOf_ifReg _ (hn.trans h1)) 0).1]
    rfl
  | ioMid n h1 h2 =>
    subst hn
    rw [s.getD_image_ioHigh h1 (by omega), State.read_of_cell (ownerOf_ioMid _ h1 h2)]
  | bootReg n h1 =>
    rw [s.getD_image_ioHigh (by omega) (by omega), (State.bus_of_bootReg (ownerOf_bootReg _ (hn.trans h1)) 0).1, h1]
  | ioHigh n h1 h2 =>
    subst hn
    rw [s.getD_image_ioHigh (by omega) h2, State.read_of_cell (ownerOf_ioHigh _ h1 h2)]
  | hram n h1 h2 =>
    subst hn
    exact getD_image_of_cell (ownerOf_hram _ h1 h2) hp.hram h1 h2 rfl
  | ieReg n h1 =>
    have htop : n = 0xFFFF := by have := a.isLt; omega
    rw [(State.bus_of_ieReg (ownerOf_ieReg _ (hn ▸ h1)) 0).1, htop, s.image_registers.2]

/-- Below 0x8000 it holds the cartridge, whatever the overlay (R344). -/
theorem State.getD_image_rom (s : State) {n : Nat} (h : n < 0x8000) : s.image.getD n 0 = s.mem.get .rom n := by
  rw [getD_of_slice s.image_holds.rom (Nat.zero_le n) (by omega)]
  exact s.mem.getD_bytes h

theorem getD_encodeSnapshot_image (s : State) {n : Nat} (h : n < 0x10000) :
    (encodeSnapshot s).getD (15 + n) 0 = s.image.getD n 0 := by
  rw [← slice_encodeSnapshot_image, getD_slice _ _ h]

theorem getD_encodeSnapshot_boot (s : State) {i : Nat} (h : i < 256) :
    (encodeSnapshot s).getD (65551 + i) 0 = s.mem.get .boot i := by
  rw [← getD_slice _ _ h, slice_encodeSnapshot_boot, s.mem.getD_bytes h]

/-- Settles O58: the header is written out; behind it stands the image, byte by byte, and the boot ROM. -/
theorem snapshotLayout : Obligations.SnapshotLayout := by
  unfold Obligations.SnapshotLayout
  intro s
  have h14 : (encodeSnapshot s).getD 14 0 = s.modeByte := rfl
  obtain ⟨hmode, hime, hip, hbug, hboot, hhigh⟩ := s.modeByte_fields
  have hbits : s.modeByte.getLsbD 6 = false ∧ s.modeByte.getLsbD 7 = false := by
    have key : ∀ v : Byte, v &&& 0xC0 = 0 → v.getLsbD 6 = false ∧ v.getLsbD 7 = false := by decide
    exact key _ hhigh
  obtain ⟨h6, h7⟩ := hbits
  refine ⟨encodeSnapshot_length s, rfl, h14 ▸ hmode.trans (by cases s.mode <;> rfl), h14 ▸ hime, h14 ▸ hip, h14 ▸ hbug,
    h14 ▸ hboot, h14 ▸ h6, h14 ▸ h7, fun a ha => ?_, fun a ha => ?_, fun i hi => getD_encodeSnapshot_boot s hi⟩
  · rw [getD_encodeSnapshot_image s a.isLt, s.getD_image_rom ha]
  · rw [getD_encodeSnapshot_image s a.isLt, s.getD_image ha]

/-! ## O59 -/

/-- R347: the checks on the unmapped windows and on the echo, byte by byte of the image. -/
theorem image_checks_iff {bs : List Byte} (hlen : bs.length = 65807) :
    (slice bs (15 + 0xA000) 0x2000 = List.replicate 0x2000 Config.openBus ∧
      slice bs (15 + 0xFEA0) 0x60 = List.replicate 0x60 Config.openBus ∧
      slice bs (15 + 0xE000) 0x1E00 = slice bs (15 + 0xC000) 0x1E00) ↔
    (∀ a, (0xA000 ≤ a ∧ a < 0xC000) ∨ (0xFEA0 ≤ a ∧ a < 0xFF00) → bs.getD (15 + a) 0 = 0xFF) ∧
      ∀ a, 0xE000 ≤ a → a < 0xFE00 → bs.getD (15 + a) 0 = bs.getD (15 + a - 0x2000) 0 := by
  rw [slice_eq_replicate_iff (by omega), slice_eq_replicate_iff (by omega), slice_eq_slice_iff (by omega) (by omega)]
  constructor
  · rintro ⟨hcart, hgap, hecho⟩
    refine ⟨fun a ha => ?_, fun a h1 h2 => ?_⟩
    · rcases ha with ⟨h1, h2⟩ | ⟨h1, h2⟩
      · exact hcart (15 + a) (by omega) (by omega)
      · exact hgap (15 + a) (by omega) (by omega)
    · exact (hecho (15 + a) (by omega) (by omega)).trans (congrArg (bs.getD · 0) (by omega))
  · rintro ⟨hopen, hecho⟩
    refine ⟨fun n h1 h2 => ?_, fun n h1 h2 => ?_, fun n h1 h2 => ?_⟩
    all_goals obtain ⟨a, rfl⟩ := Nat.exists_eq_add_of_le (show 15 ≤ n by omega)
    · exact hopen a (.inl ⟨by omega, by omega⟩)
    · exact hopen a (.inr ⟨by omega, by omega⟩)
    · exact (hecho a (by omega) (by omega)).trans (congrArg (bs.getD · 0) (by omega))

/-- Settles O59: the bytes that fail a check are those the statement names. -/
theorem corruptSnapshotsAreRefused : Obligations.CorruptSnapshotsAreRefused := by
  unfold Obligations.CorruptSnapshotsAreRefused
  intro bs
  rw [decodeSnapshot_error_iff]
  constructor
  · intro hrefused
    by_contra hall
    simp only [not_or, not_exists, not_and, not_not] at hall
    obtain ⟨hlen, hflags, hmode, hhigh, hif, hifCopy, hieCopy, hopen, hecho⟩ := hall
    obtain ⟨hcart, hgap, hecho⟩ := (image_checks_iff hlen).2 ⟨hopen, hecho⟩
    exact hrefused ⟨hlen, hflags, hmode, hhigh, hif, hifCopy, hieCopy, hcart, hgap, hecho⟩
  · intro hfails hacc
    obtain ⟨hopen, hecho⟩ := (image_checks_iff hacc.length).1 ⟨hacc.cartRam, hacc.gap, hacc.echo⟩
    rcases hfails with h | h | h | h | h | h | h | ⟨a, ha, h⟩ | ⟨a, h1, h2, h⟩
    · exact h hacc.length
    · exact h hacc.flags
    · exact hacc.mode h
    · exact h hacc.modeHigh
    · exact h hacc.ifHigh
    · exact h hacc.ifCopy
    · exact h hacc.ieCopy
    · exact h (hopen a ha)
    · exact h (hecho a h1 h2)

end Sys2Proof.Machine
end

section
/-! SUPPORT. One step with the host's inputs (spec/60_exceptions.md R400 to R410): idle steps and waking, the dispatch, the
delayed `EI`, the fault, the modes and the cycle bounds; O14, O15, O16, O18, O51 and O53. -/

namespace Sys2Proof.Machine

/-! ## Waking (R401, R402) -/

theorem State.wakeUp_running {s : State} (h : s.mode = .running) (wake : Bool) : s.wakeUp wake = some s := by
  simp only [State.wakeUp, h]

theorem State.wakeUp_stopped_true {s : State} (h : s.mode = .stopped) :
    s.wakeUp true = some { s with mode := .running } := by
  simp only [State.wakeUp, h, if_true]

theorem State.wakeUp_stopped_false {s : State} (h : s.mode = .stopped) : s.wakeUp false = none := by
  simp only [State.wakeUp, h, Bool.false_eq_true, if_false]

theorem State.wakeUp_halted_of_pending {s : State} (h : s.mode = .halted) (hp : s.pending ≠ 0) (wake : Bool) :
    s.wakeUp wake = some { s with mode := .running } := by
  simp only [State.wakeUp, h, if_pos hp]

theorem State.wakeUp_halted_of_noPending {s : State} (h : s.mode = .halted) (hp : s.pending = 0) (wake : Bool) :
    s.wakeUp wake = none := by
  simp only [State.wakeUp, h, if_neg (not_not.2 hp)]

/-! ## A step by the state it goes on in -/

theorem stepWith_of_idle {inp : StepInput} {s : State} (h : (s.latch inp.irq).wakeUp inp.wake = none) :
    stepWith inp s = .next (s.latch inp.irq, 1) := by
  simp only [stepWith, h]

/-- A step that goes on depends only on the state in which it does. -/
theorem stepWith_congr {inp inp' : StepInput} {s s' s1 : State} (h : (s.latch inp.irq).wakeUp inp.wake = some s1)
    (h' : (s'.latch inp'.irq).wakeUp inp'.wake = some s1) : stepWith inp s = stepWith inp' s' := by
  simp only [stepWith, h, h']

theorem stepWith_next_iff {inp : StepInput} {s s1 t : State} {n : Nat}
    (h : (s.latch inp.irq).wakeUp inp.wake = some s1) :
    stepWith inp s = .next (t, n) ↔ exec s1.ready.nextInstr s1.ready = .next t ∧
      n = (if s1.dispatchDue then Config.dispatchCycles else 0) + cycles s1.ready.nextInstr s1.ready := by
  simp only [stepWith, h]
  cases exec s1.ready.nextInstr s1.ready with
  | next u => simp only [Host.Outcome.next.injEq, Prod.mk.injEq, eq_comm (a := n)]
  | fault r => simp only [reduceCtorEq, false_and]
  | refused r => simp only [reduceCtorEq, false_and]

/-! ## O14 -/

/-- Settles O14: an idle step is the latch; a woken one goes on where the step of the running state does. -/
theorem stoppedAndHaltedSteps : Obligations.StoppedAndHaltedSteps := by
  unfold Obligations.StoppedAndHaltedSteps
  intro s irq wake
  have hrunning : ({ s with mode := .running }.latch irq).wakeUp wake = some { s.latch irq with mode := .running } :=
    State.wakeUp_running rfl wake
  refine ⟨?_, ?_, fun hm hp => ?_, fun hm hp => ?_⟩
  · rintro hm rfl
    exact stepWith_of_idle (State.wakeUp_stopped_false (s := s.latch irq) hm)
  · rintro hm rfl
    exact stepWith_congr (State.wakeUp_stopped_true (s := s.latch irq) hm) hrunning
  · exact stepWith_of_idle (State.wakeUp_halted_of_noPending (s := s.latch irq) hm hp wake)
  · exact stepWith_congr (State.wakeUp_halted_of_pending (s := s.latch irq) hm hp wake) hrunning

/-! ## O15 -/

theorem lowestPending_eq {p : BitVec 5} {i : Nat} (hi : i < 5) (hset : p.getLsbD i = true)
    (hlow : ∀ j, j < i → p.getLsbD j = false) : lowestPending p = i := by
  unfold lowestPending
  interval_cases i
  · simp only [hset, if_true]
  · simp only [hlow 0 (by decide), hset, Bool.false_eq_true, if_true, if_false]
  · simp only [hlow 0 (by decide), hlow 1 (by decide), hset, Bool.false_eq_true, if_true, if_false]
  · simp only [hlow 0 (by decide), hlow 1 (by decide), hlow 2 (by decide), hset, Bool.false_eq_true, if_true, if_false]
  · simp only [hlow 0 (by decide), hlow 1 (by decide), hlow 2 (by decide), hlow 3 (by decide), Bool.false_eq_true, if_false]

theorem State.dispatchDue_iff (s : State) : s.dispatchDue = true ↔ s.ime = true ∧ s.pending ≠ 0 := by
  rw [State.dispatchDue, Bool.and_eq_true, decide_eq_true_eq]

theorem State.dispatchDue_of_masked {s : State} (h : s.ime = false) : s.dispatchDue = false := by
  rw [State.dispatchDue, h, Bool.false_and]

/-- Stores do not depend on `SP` and `PC`. -/
theorem State.write_write_with_sp_pc (s : State) (sp pc a b : Word) (v w : Byte) :
    ({ s with sp := sp, pc := pc }.write a v).write b w = { (s.write a v).write b w with sp := sp, pc := pc } := by
  have hone : ∀ (t : State) (c : Word) (x : Byte),
      { t with sp := sp, pc := pc }.write c x = { t.write c x with sp := sp, pc := pc } := fun t c x =>
    (State.write_with_pc { t with sp := sp } pc c x).trans (by rw [State.write_with_sp])
  rw [hone, hone]

/-- R404: the dispatch, written out: `PC` is stored below `SP` after the acknowledge. -/
theorem State.dispatch_eq (s : State) :
    s.dispatch =
      ({ s with
          iflag := s.iflag &&& ~~~((1 : BitVec 5) <<< lowestPending s.pending), ime := false, imePending := false,
          sp := s.sp - 2, pc := vector (lowestPending s.pending) }.write (s.sp - 1) (hi s.pc)).write
        (s.sp - 2) (lo s.pc) := by
  have hsp : s.sp - 2 = s.sp - 1 - 1 := by bv_omega
  rw [State.dispatch, State.push16_eq, hsp]
  exact (State.write_write_with_sp_pc _ _ _ _ _ _ _).symm

/-- Settles O15: the ready state is the dispatched one, in which the step of the statement's state `d` goes on too. -/
theorem interruptDispatchEntry : Obligations.InterruptDispatchEntry := by
  unfold Obligations.InterruptDispatchEntry
  intro s irq wake i hm hime hi hset hlow u d
  have hlowest : lowestPending (s.latch irq).pending = i := lowestPending_eq hi hset hlow
  have hdue : (s.latch irq).dispatchDue = true := by
    refine (State.dispatchDue_iff _).2 ⟨hime, fun h0 => ?_⟩
    have hbit : (s.latch irq).pending.getLsbD i = true := hset
    simp [h0] at hbit
  have hd : (s.latch irq).dispatch = d := by
    rw [State.dispatch_eq, hlowest]
    rfl
  have hkeeps := (s.latch irq).dispatch_keeps
  rw [hd] at hkeeps
  have hready : (s.latch irq).ready = d := (State.ready_of_dispatch hdue).trans hd
  have hidle : d.dispatchDue = false := State.dispatchDue_of_masked hkeeps.ime
  have hwake : (s.latch irq).wakeUp wake = some (s.latch irq) := State.wakeUp_running (s := s.latch irq) hm wake
  have hwaked : (d.latch 0).wakeUp wake = some d := by
    rw [State.latch_none]
    exact State.wakeUp_running (hkeeps.mode.trans hm) wake
  simp only [stepWith, hwake, hwaked, hready, hdue, hidle, State.ready_of_idle hidle hkeeps.imePending]
  cases exec d.nextInstr d with
  | next t =>
    simp only [if_true, Bool.false_eq_true, if_false, Nat.zero_add, Nat.add_comm _ 5]
    rfl
  | fault r => rfl
  | refused r => rfl

/-! ## O16 -/

theorem Effect.ime_of_enabled {s t : State} {i : Instr} (h : Effect s i t) (hime : s.ime = true) (hdi : i ≠ .di) :
    t.ime = true := by
  cases h with
  | keeps n hk => rw [hk.ime, State.fetched_ime, hime]
  | halt => rw [haltOp_eq]; exact (State.fetched_ime 1 s).trans hime
  | stop pad => exact (State.fetched_ime 2 s).trans hime
  | di => exact absurd rfl hdi
  | ei => exact (State.fetched_ime 1 s).trans hime
  | reti => rfl

/-- Settles O16: no dispatch is due, so the ready state is the one with the delayed enable applied. -/
theorem delayedEnableOfEI : Obligations.DelayedEnableOfEI := by
  unfold Obligations.DelayedEnableOfEI
  intro s irq wake hm hime hip r
  have hidle : (s.latch irq).dispatchDue = false := State.dispatchDue_of_masked hime
  have hready : (s.latch irq).ready = r := State.ready_of_pendingEI hidle hip
  have hstep : ∀ t n, stepWith ⟨irq, wake⟩ s = .next (t, n) ↔ exec r.nextInstr r = .next t ∧ n = cycles r.nextInstr r :=
    fun t n => by
      rw [stepWith_next_iff (State.wakeUp_running (s := s.latch irq) hm wake), hready, hidle]
      simp only [Bool.false_eq_true, if_false, Nat.zero_add]
  refine ⟨hstep, fun t n h hdi => ?_, fun t n h hdi => ?_⟩
  · obtain ⟨hexec, -⟩ := (hstep t n).1 h
    have ht : t.ime = true := (effect_of_exec hexec).ime_of_enabled rfl hdi
    exact ⟨ht, by rw [State.dispatchDue, ht, Bool.true_and]⟩
  · obtain ⟨hexec, -⟩ := (hstep t n).1 h
    rw [hdi] at hexec
    have ht : t.ime = false := by rw [complete_next hexec]; rfl
    exact ⟨ht, State.dispatchDue_of_masked ht⟩

/-! ## O18 -/

/-- The first byte fetched is the one at `PC`, with the halt bug or without. -/
theorem State.nextInstr_first (s : State) : ∃ b1 b2, s.nextInstr = decodeBytes (s.read s.pc) b1 b2 := by
  cases h : s.haltBug
  · exact ⟨_, _, State.nextInstr_of_noBug h⟩
  · exact ⟨_, _, State.nextInstr_of_bug h⟩

theorem exec_fault_isIllegal {i : Instr} {s : State} {x : Fault} (h : exec i s = .fault x) : i.isIllegalByte = true := by
  by_contra hlegal
  obtain ⟨t, ht⟩ := exec_next_of_legal (Bool.eq_false_iff.2 hlegal) s
  rw [h] at ht
  cases ht

/-- R326, R410: the next instruction faults only with the byte at `PC`, an illegal one. -/
theorem exec_nextInstr_fault {s : State} {x : Fault} (h : exec s.nextInstr s = .fault x) :
    x = .illegalOpcode (s.read s.pc) s.pc ∧ s.read s.pc ∈ illegalBytes := by
  obtain ⟨b1, b2, hi⟩ := s.nextInstr_first
  rw [hi] at h
  obtain ⟨hmem, hexec⟩ := decodeBytes_illegal (exec_fault_isIllegal h)
  rw [hexec] at h
  cases h
  exact ⟨rfl, hmem⟩

theorem exec_ne_refused (i : Instr) (s : State) (x : Refusal) : exec i s ≠ .refused x := by
  intro h
  cases hill : i.isIllegalByte
  · obtain ⟨t, ht⟩ := exec_next_of_legal hill s
    rw [h] at ht
    cases ht
  · obtain ⟨op, -, -, hexec⟩ := illegal_cases hill
    rw [hexec] at h
    cases h

theorem step_fault_iff {s : State} {x : Fault} : step s = .fault x ↔ stepTimed s = .fault x := by
  unfold step stepState
  cases stepTimed s <;> simp

theorem stepWith_ne_refused (inp : StepInput) (s : State) (x : Refusal) : stepWith inp s ≠ .refused x := by
  intro h
  obtain ⟨s1, -, he⟩ := stepWith_refused h
  exact exec_ne_refused _ _ x he

theorem stepTimed_ne_refused (s : State) (x : Refusal) : stepTimed s ≠ .refused x := stepWith_ne_refused _ _ x

theorem step_ne_refused (s : State) (x : Refusal) : step s ≠ .refused x := by
  intro h
  unfold step stepState at h
  split at h
  · cases h
  · cases h
  · rename_i r hr
    exact stepTimed_ne_refused s r hr

/-- Settles O18: a fault is the next instruction's, in the ready state, and no instruction is refused. -/
theorem stepFaultsOnlyOnAnIllegalByte : Obligations.StepFaultsOnlyOnAnIllegalByte := by
  unfold Obligations.StepFaultsOnlyOnAnIllegalByte
  intro s
  refine ⟨fun x h => ?_, step_ne_refused s⟩
  obtain ⟨s1, hwake, hexec⟩ := stepWith_fault (step_fault_iff.1 h)
  obtain ⟨hx, hmem⟩ := exec_nextInstr_fault hexec
  exact ⟨s1, hwake, hx, hmem⟩

/-! ## O51 -/

/-- Only `HALT` and `STOP` write the mode. -/
theorem Effect.mode_of_ne {s t : State} {i : Instr} (h : Effect s i t) (hhalt : i ≠ .halt) (hstop : ∀ pad, i ≠ .stop pad) :
    t.mode = s.mode := by
  cases h with
  | keeps n hk => rw [hk.mode, State.fetched_mode]
  | halt => exact absurd rfl hhalt
  | stop pad => exact absurd rfl (hstop pad)
  | di => exact State.fetched_mode 1 s
  | ei => exact State.fetched_mode 1 s
  | reti => exact (ret_keeps _).mode.trans (State.fetched_mode 1 s)

/-- R321, cases B and C. -/
theorem haltOp_mode_haltBug_of_pending {s : State} (h : s.pending ≠ 0) (hbug : s.haltBug = false) :
    (haltOp s).mode = s.mode ∧ (haltOp s).haltBug = !s.ime := by
  cases hime : s.ime
  · rw [haltOp_of_pending_masked h hime]
    exact ⟨rfl, rfl⟩
  · rw [haltOp_of_pending_enabled h hime]
    exact ⟨rfl, hbug⟩

/-- Settles O51: `HALT` and `STOP` by their own operations, every other instruction by its effect, waking by its mode. -/
theorem modeStateMachine : Obligations.ModeStateMachine := by
  unfold Obligations.ModeStateMachine
  refine ⟨fun i s t hm hexec => ⟨?_, ?_, ?_, fun hhalt hstop => ?_⟩, fun s => s.dispatch_keeps.mode,
    fun s irq wake hm => ⟨fun hp => ?_, fun hp => ⟨?_, hm⟩⟩, fun s irq hm => ⟨?_, ?_, hm⟩⟩
  · rintro rfl hp
    rw [complete_next hexec, haltOp_of_noPending (by rwa [State.fetched_pending])]
  · rintro rfl hp
    obtain ⟨hmode, hbug⟩ :=
      haltOp_mode_haltBug_of_pending (s := s.fetched 1) (by rwa [State.fetched_pending]) (s.fetched_haltBug 0)
    rw [complete_next hexec, hmode, hbug, State.fetched_mode, State.fetched_ime]
    exact ⟨hm, rfl⟩
  · rintro pad rfl
    rw [complete_next hexec, stopOp_eq]
  · exact ((effect_of_exec hexec).mode_of_ne hhalt hstop).trans hm
  · exact State.wakeUp_halted_of_pending (s := s.latch irq) hm hp wake
  · exact State.wakeUp_halted_of_noPending (s := s.latch irq) hm hp wake
  · exact State.wakeUp_stopped_true (s := s.latch irq) hm
  · exact State.wakeUp_stopped_false (s := s.latch irq) hm

/-! ## O53 -/

theorem cbCycles_bounds (op2 : Byte) : 1 ≤ cbCycles op2 ∧ cbCycles op2 ≤ 6 := by
  unfold cbCycles
  split_ifs <;> decide

theorem notTakenCycles_bounds (op : Byte) : 1 ≤ notTakenCycles op ∧ notTakenCycles op ≤ 6 := by
  unfold notTakenCycles
  split_ifs <;> decide

theorem opCycles_bounds : ∀ op : Byte, op ∉ illegalBytes → op ≠ 0xCB → 1 ≤ opCycles op ∧ opCycles op ≤ 6 := by decide

/-- R406, R471: a legal opcode takes 1 to 6 M-cycles. -/
theorem cycles_bounds {i : Instr} {op : Byte} {l : List Byte} (he : encode i = op :: l) (hlegal : op ∉ illegalBytes)
    (s : State) : 1 ≤ cycles i s ∧ cycles i s ≤ 6 := by
  unfold cycles
  rw [he]
  dsimp only
  split_ifs with hcb
  · exact cbCycles_bounds _
  · split
    · split_ifs
      · exact opCycles_bounds op hlegal hcb
      · exact notTakenCycles_bounds op
    · exact opCycles_bounds op hlegal hcb

theorem cycles_nextInstr_bounds {s t : State} (h : exec s.nextInstr s = .next t) :
    1 ≤ cycles s.nextInstr s ∧ cycles s.nextInstr s ≤ 6 := by
  obtain ⟨b1, b2, hi⟩ := s.nextInstr_first
  refine cycles_bounds (hi ▸ (decodeBytes_row _ b1 b2).1) (fun hill => ?_) s
  obtain ⟨-, hexec⟩ := decodeBytes_illegal (decodeBytes_isIllegalByte hill b1 b2)
  rw [hi, hexec] at h
  cases h

/-- Settles O53: an instruction takes 1 to 6 M-cycles, a dispatch before it 5 more. -/
theorem stepCyclesWithinBounds : Obligations.StepCyclesWithinBounds := by
  unfold Obligations.StepCyclesWithinBounds
  intro inp s t n h
  rcases stepWith_next h with ⟨hidle, -, rfl⟩ | ⟨s1, hwake, hexec, hn⟩
  · rw [hidle]
    exact ⟨by decide, by decide, fun _ => rfl, fun s1 h1 => by cases h1⟩
  · obtain ⟨hmin, hmax⟩ := cycles_nextInstr_bounds hexec
    rw [hwake]
    have hdispatch : (if s1.dispatchDue then Config.dispatchCycles else 0) ≤ 5 := by split <;> decide
    refine ⟨by omega, by omega, nofun, fun s2 h2 => ?_⟩
    obtain rfl : s1 = s2 := Option.some.inj h2
    refine ⟨fun hidle => ?_, fun hdue => ?_⟩
    · rw [hn, hidle, if_neg Bool.false_ne_true]
      omega
    · rw [hn, if_pos hdue, Config.dispatchCycles]
      omega

end Sys2Proof.Machine
end

section
/-! SUPPORT. The host's calls (spec/48_host_interface.md R370 to R384): the image checks, the tick, its completion
predicate and what each call does; O12, O54, O55 and O60. -/

namespace Sys2Proof.Machine

/-! ## O12 -/

/-- R372: the sum runs over the header's 25 bytes, where the image has them. -/
theorem headerSum_eq {image : List Byte} (h : 0x150 ≤ image.length) :
    headerSum image = (List.range 25).foldl (fun x k => x - image.getD (0x134 + k) 0 - 1) 0 := by
  have hbytes : (image.drop 0x134).take 0x19 = (List.range 25).map fun k => image.getD (0x134 + k) 0 :=
    slice_eq_map_getD (by omega)
  rw [headerSum, hbytes, List.foldl_map]

theorem romAccepted_eq_false_iff (p : Params) (image : List Byte) :
    romAccepted p image = false ↔
      image.length < 0x150 ∨ (p.enforceHeaderChecksum = true ∧ headerSum image ≠ image.getD 0x14D 0) := by
  rw [romAccepted, Bool.and_eq_false_iff, decide_eq_false_iff_not, Nat.not_le, Bool.or_eq_false_iff, Bool.not_eq_false',
    beq_eq_false_iff_ne]
  rfl

theorem construct_error_iff (p : Params) (image : List Byte) (boot : Option (List Byte)) (video audio : Bool) :
    construct p image boot video audio = .error .invalidRomFormat ↔ romAccepted p image = false := by
  refine ⟨fun h => ?_, fun h => construct_of_refused h ..⟩
  by_contra hacc
  rw [construct_of_accepted (by simpa using hacc)] at h
  cases h

/-- Settles O12: an image long enough has all the bytes the sum runs over. -/
theorem romImageCheckRejects : Obligations.RomImageCheckRejects := by
  unfold Obligations.RomImageCheckRejects
  refine ⟨fun p image boot video audio => ?_, rfl⟩
  rw [construct_error_iff, romAccepted_eq_false_iff]
  by_cases hlen : image.length < 0x150
  · simp only [hlen, true_or]
  · rw [headerSum_eq (Nat.not_lt.1 hlen)]

/-! ## O54 -/

/-- Every timed step takes 1 to 11 M-cycles (R406). -/
theorem stepTimed_bounds {s t : State} {n : Nat} (h : stepTimed s = .next (t, n)) : 1 ≤ n ∧ n ≤ 11 := by
  obtain ⟨hmin, hmax, -⟩ := stepCyclesWithinBounds _ _ _ _ h
  exact ⟨hmin, hmax⟩

theorem RunsTimed.steps_le_total {s t : State} {steps total : Nat} (h : RunsTimed s steps total t) : steps ≤ total := by
  induction h with
  | refl => exact Nat.le_refl 0
  | tail _ hstep ih =>
    have hmin := (stepTimed_bounds hstep).1
    omega

/-- One timed step, then a chain of them. -/
theorem RunsTimed.head {s t u : State} {n steps total : Nat} (hstep : stepTimed s = .next (t, n))
    (h : RunsTimed t steps total u) : RunsTimed s (steps + 1) (n + total) u := by
  induction h with
  | refl => simpa using RunsTimed.refl.tail hstep
  | tail _ hlast ih => exact Nat.add_assoc .. ▸ ih.tail hlast

/-- A chain of timed steps is empty, or its first step and the chain behind it. -/
theorem RunsTimed.cases_head {s u : State} {steps total : Nat} (h : RunsTimed s steps total u) :
    (steps = 0 ∧ total = 0 ∧ u = s) ∨
    ∃ (t : State) (n steps' total' : Nat), stepTimed s = .next (t, n) ∧ RunsTimed t steps' total' u ∧
      steps = steps' + 1 ∧ total = n + total' := by
  induction h with
  | refl => exact .inl ⟨rfl, rfl, rfl⟩
  | tail _ hlast ih =>
    right
    rcases ih with ⟨rfl, rfl, rfl⟩ | ⟨t, n, steps', total', hstep, hrun, rfl, rfl⟩
    · exact ⟨_, _, 0, 0, hlast, .refl, rfl, Nat.add_comm ..⟩
    · exact ⟨t, n, _, _, hstep, hrun.tail hlast, rfl, Nat.add_assoc ..⟩

/-- Timed steps lead from `s` to `t`, and it is the last of them that makes their cycles sum to `budget` or more. -/
def Spends (budget : Nat) (s t : State) : Prop :=
  ∃ (steps total n : Nat) (u : State), RunsTimed s steps total u ∧ total < budget ∧ stepTimed u = .next (t, n) ∧
    budget ≤ total + n

/-- The first step spends the budget, or the steps behind it spend what it leaves. -/
theorem spends_iff {budget : Nat} (hb : 0 < budget) (s t : State) :
    Spends budget s t ↔ ∃ (v : State) (n : Nat), stepTimed s = .next (v, n) ∧
      ((budget ≤ n ∧ v = t) ∨ (n < budget ∧ Spends (budget - n) v t)) := by
  constructor
  · rintro ⟨steps, total, n, u, hrun, hlt, hlast, hle⟩
    rcases hrun.cases_head with ⟨-, rfl, rfl⟩ | ⟨v, m, steps', total', hstep, hrest, -, rfl⟩
    · exact ⟨t, n, hlast, .inl ⟨by omega, rfl⟩⟩
    · exact ⟨v, m, hstep, .inr ⟨by omega, steps', total', n, u, hrest, by omega, hlast, by omega⟩⟩
  · rintro ⟨v, n, hstep, ⟨hle, rfl⟩ | ⟨hlt, steps, total, m, u, hrun, hlt', hlast, hle⟩⟩
    · exact ⟨0, 0, n, s, .refl, hb, hstep, by omega⟩
    · exact ⟨steps + 1, n + total, m, u, hrun.head hstep, by omega, hlast, by omega⟩

theorem runTick_of_spent {total : Nat} (h : Config.tickCycles ≤ total) (fuel steps : Nat) (s : State) :
    runTick fuel total steps s = .next (s, total, steps) := by
  cases fuel with
  | zero => rfl
  | succ k => rw [runTick, if_neg (Nat.not_lt.2 h)]

/-- With fuel for each cycle left, the steps of a tick that answers are those that spend what is left of its cycles. -/
theorem runTick_next_iff {fuel total budget : Nat} (hsum : total + budget = Config.tickCycles) (hb : 0 < budget)
    (hfuel : budget ≤ fuel) (steps : Nat) (s t : State) :
    (∃ p, runTick fuel total steps s = .next (t, p)) ↔ Spends budget s t := by
  induction fuel generalizing total budget steps s with
  | zero => omega
  | succ k ih =>
    rw [spends_iff hb, runTick, if_pos (by omega)]
    cases hstep : stepTimed s with
    | next q =>
      obtain ⟨v, n⟩ := q
      obtain ⟨hmin, -⟩ := stepTimed_bounds hstep
      dsimp only
      by_cases hspent : budget ≤ n
      · rw [runTick_of_spent (by omega)]
        simp [hspent]
      · rw [ih (budget := budget - n) (by omega) (by omega) (by omega)]
        simp [hspent, Nat.not_le.1 hspent]
    | fault r => simp
    | refused r => simp

theorem tick_next_iff {completion : State → Bool} {sink : Bool} {s : State} {r : TickResult} :
    tick completion sink s = .next r ↔ ∃ t, Spends Config.tickCycles s t ∧
      r = { state := t, snapshot := if sink then some (encodeSnapshot t) else none, completed := completion t } := by
  have hspends := fun t => runTick_next_iff (Nat.zero_add _) (by decide) (Nat.le_refl Config.tickCycles) 0 s t
  simp only [← hspends, tick]
  cases runTick Config.tickCycles 0 0 s with
  | next q =>
    obtain ⟨t, p⟩ := q
    constructor
    · intro h
      exact ⟨t, ⟨p, rfl⟩, (Host.Outcome.next.inj h).symm⟩
    · rintro ⟨u, ⟨p', hp⟩, rfl⟩
      cases hp
      rfl
  | fault x => simp
  | refused x => simp

/-- Settles O54: a tick that answers has spent its cycles, and each of its steps took 1 to 11 of them. -/
theorem tickSpendsItsCycleBudget : Obligations.TickSpendsItsCycleBudget := by
  unfold Obligations.TickSpendsItsCycleBudget
  intro completion sink s
  refine ⟨fun r => ?_, fun steps total n u t hrun hlt hstep _ => ?_⟩
  · rw [tick_next_iff]
    constructor
    · rintro ⟨t, ⟨steps, total, n, u, hrun, hlt, hstep, hle⟩, hr⟩
      exact ⟨steps, total, n, u, t, hrun, hlt, hstep, hle, hr⟩
    · rintro ⟨steps, total, n, u, t, hrun, hlt, hstep, hle, hr⟩
      exact ⟨t, ⟨steps, total, n, u, hrun, hlt, hstep, hle⟩, hr⟩
  · have hsteps := hrun.steps_le_total
    have hmax := (stepTimed_bounds hstep).2
    omega

/-! ## O55 -/

theorem completionDefault_iff (s : State) :
    completionDefault s = true ↔ s.mode = .running ∧ s.read s.pc = 0x18 ∧ s.read (s.pc + 1) = 0xFE := by
  rw [completionDefault, Bool.and_eq_true, Bool.and_eq_true, decide_eq_true_eq, beq_iff_eq, beq_iff_eq, and_assoc]

/-- R294: `JR -2` jumps to itself. -/
theorem exec_jr_self {s : State} (hbug : s.haltBug = false) : exec (.jr_e 0xFE) s = .next s := by
  have htarget : s.pc + 2 + sext16 0xFE = s.pc := by
    rw [BitVec.add_assoc]
    exact BitVec.add_zero s.pc
  have hjump : exec (.jr_e 0xFE) s = .next (jumpRel 0xFE (s.fetched 2)) := rfl
  rw [hjump, State.fetched_of_noBug hbug]
  exact congrArg (fun w => Host.Outcome.next { s with pc := w }) htarget

/-- With no input there is nothing to take off the queue and nothing to latch. -/
theorem State.latched_of_noInput {s : State} (h : s.inputs = []) : s.latched = s := by
  rw [State.latched, h]
  exact (State.latch_none _).trans (by rw [List.tail_nil, ← h])

/-- Settles O55: the step idles through its first phases and jumps to where it stands. -/
theorem defaultCompletionIsAJumpToItself : Obligations.DefaultCompletionIsAJumpToItself := by
  unfold Obligations.DefaultCompletionIsAJumpToItself
  intro s
  refine ⟨completionDefault_iff s, fun hdone hinputs hidle hip hbug => ?_⟩
  obtain ⟨hmode, h0, h1⟩ := (completionDefault_iff s).1 hdone
  have hdue : s.dispatchDue = false := by
    rw [State.dispatchDue]
    rcases hidle with h | h <;> simp [h]
  have hinstr : s.nextInstr = .jr_e 0xFE := by
    rw [State.nextInstr_of_noBug hbug, h0, h1]
    rfl
  have hwake : s.latched.wakeUp (s.inputs.headD .none).wake = some s := by
    rw [State.latched_of_noInput hinputs]
    exact State.wakeUp_running hmode _
  rw [step_of_wakeUp hwake, State.ready_of_idle hdue hip, hinstr, exec_jr_self hbug]

/-! ## O60 -/

theorem Instance.call_eq_none_iff (completion : State → Bool) (inst : Instance) (c : Call) :
    inst.call completion c = none ↔ inst.allows c = false := by
  rw [Instance.call]
  cases inst.allows c <;> simp

theorem Instance.call_of_allows {inst : Instance} {c : Call} (h : inst.allows c = true) (completion : State → Bool) :
    inst.call completion c = some (inst.perform completion c) := if_pos h

theorem Instance.allows_eq_false_iff (inst : Instance) (c : Call) :
    inst.allows c = false ↔
      inst.released = true ∨ (inst.faulted = true ∧ ((∃ inp, c = .step inp) ∨ ∃ sink, c = .tick sink)) := by
  cases c <;> cases hf : inst.faulted <;> cases hr : inst.released <;> simp [Instance.allows, hf, hr]

/-- R326: a tick that faults stops before the step that does. -/
theorem runTick_fault {fuel total steps : Nat} {s s0 : State} {r : Fault} (hrun : Reaches s0 s)
    (h : runTick fuel total steps s = .fault r) :
    Reaches s0 (tickState fuel total s) ∧ step (tickState fuel total s) = .fault r := by
  induction fuel generalizing total steps s with
  | zero => cases h
  | succ k ih =>
    unfold runTick at h
    unfold tickState
    split_ifs at h ⊢ with hlt
    cases hstep : stepTimed s with
    | next q =>
      rw [hstep] at h
      exact ih (hrun.tail (step_next_iff.2 ⟨q.2, hstep⟩)) h
    | fault x =>
      rw [hstep] at h
      cases h
      exact ⟨hrun, step_fault_iff.2 hstep⟩
    | refused x => exact absurd hstep (stepTimed_ne_refused s x)

theorem tick_fault {completion : State → Bool} {sink : Bool} {s : State} {r : Fault}
    (h : tick completion sink s = .fault r) :
    Reaches s (tickState Config.tickCycles 0 s) ∧ step (tickState Config.tickCycles 0 s) = .fault r := by
  unfold tick at h
  split at h
  · cases h
  · rename_i x hx
    cases h
    exact runTick_fault .refl hx
  · cases h

theorem Instance.allows_of_live {inst : Instance} (hreleased : inst.released = false) (hfaulted : inst.faulted = false)
    (c : Call) : inst.allows c = true := by
  by_contra h
  rcases (inst.allows_eq_false_iff c).1 (Bool.eq_false_iff.2 h) with h | ⟨h, -⟩
  · rw [hreleased] at h
    cases h
  · rw [hfaulted] at h
    cases h

/-- Settles O60: an allowed call is `perform`; a tick that faults stops where `runTick_fault` says. -/
theorem hostCallsOnAnInstance : Obligations.HostCallsOnAnInstance := by
  unfold Obligations.HostCallsOnAnInstance
  intro completion inst
  refine ⟨fun c => ?_, fun hreleased => ?_, fun hreleased hfaulted => ?_⟩
  · rw [Instance.call_eq_none_iff, Instance.allows_eq_false_iff]
  · have hlive : (!inst.released) = true := by rw [hreleased]; rfl
    refine ⟨Instance.call_of_allows (c := .encode) hlive _, Instance.call_of_allows (c := .setSpeed) hlive _,
      Instance.call_of_allows (c := .stop) hlive _, fun c => ?_⟩
    rw [Instance.call_eq_none_iff, Instance.allows_eq_false_iff]
    exact .inl rfl
  · have hcall : ∀ c, inst.call completion c = some (inst.perform completion c) := fun c =>
      Instance.call_of_allows (Instance.allows_of_live hreleased hfaulted c) completion
    refine ⟨fun inp t n h => ?_, fun inp r h => ?_, fun sink r h => ?_, fun sink r h => ?_⟩
    · rw [hcall, Instance.perform, h]
    · rw [hcall, Instance.perform, h]
    · rw [hcall, Instance.perform, h]
    · exact ⟨tickState Config.tickCycles 0 inst.state, by rw [hcall, Instance.perform, h], tick_fault h⟩

end Sys2Proof.Machine
end
